-- ==== Sys2Proof/Word.lean ====
section
/-! DEFINITION. The two field widths of the record formats (Chapter 11): every field of a record
is made of bytes, and a number of two bytes is sent high byte first (Table 11.2). -/

namespace Sys2Proof

/-- One byte of a record. -/
abbrev Byte := BitVec 8

/-- A number of two bytes (Table 11.2). -/
abbrev Half := BitVec 16

end Sys2Proof
end

