-- ==== Sys2Proof/Config.lean ====
section
/-! DEFINITION. What the part fixes once and for all (sizes, periods, bounds), and the three values
the manual leaves open. An `opaque` constant has no body that Lean can see, so a statement about
it holds for every value it might have. -/

namespace Sys2Proof.Config

/-- Contactors K0 to K95 (R1). -/
def contactors : Nat := 96
/-- Banks 0 to 11 of eight contactors each (R1). -/
def banks : Nat := 12
/-- The debounce time, in milliseconds (R6). -/
def debounceMs : Nat := 5
/-- When a contactor without a first debounced value takes NONE, in milliseconds (R7). -/
def firstValueMs : Nat := 100
/-- The period of the ramp timer, in milliseconds (R134). -/
def rampMs : Nat := 100
/-- Records a command queue holds (R154). -/
def commandQueueMax : Nat := 8
/-- Notices a notice queue holds (R162). -/
def noticeQueueMax : Nat := 16
/-- Records the Fault List holds (R142). -/
def faultListMax : Nat := 16
/-- The shortest and the longest body of a record, in bytes (Table 11.1, R151). -/
def minBody : Nat := 2
def maxBody : Nat := 250
/-- Entries READ CONTACTORS may ask for (R19, R168). -/
def readContactorsMax : Nat := 40
/-- The top of the local limit and of every permit (R136, Table 3). -/
def fullScale : Nat := 1000
/-- The top of a power report's forward power (R127). -/
def forwardMax : Nat := 1200
/-- The longest wait limit, in seconds (R58). -/
def waitLimitMax : Nat := 3600

/-- FREE VALUE (log entry 4). READ CLIP LOG reports the value of a cap that does not apply "as it
was formed" (R131, Table 11.4), and the CAUTION, OUT and MONITOR caps are formed from the licensed
power of the current slot: for a station with no current slot the manual states no value. Caps lie
in 0 to 1000 (Table 3). The argument is the draw's number. -/
opaque freeCapValue : Nat → Fin 1001

/-- FREE VALUE (log entry 5). R15 gives the end of a travel whose limit expires with the contactor
showing the other position (STUCK) or NONE (LOST), and no end for a contactor that shows the
position it is driven to, which a contactor driven out of STUCK toward the position it stands at
does. 0 AT_y, 1 STUCK, 2 LOST, 3 CONFLICT. The argument is the draw's number. -/
opaque freeTravelEnd : Nat → Fin 4

/-- FREE VALUE (log entry 30). Table 11.4 gives a contactor six bytes in the reply to READ CONTACTORS
and lists fields of seven: where the three bits of the state code stand in six is not stated. One of
the 24 ways to give them three of the four bits that the commanded position and the sense value leave
(`statePlaces`, Machine/Format.lean). -/
opaque freeStatePlace : Fin 24

end Sys2Proof.Config
end

