-- ==== Sys2Proof/Syntax.lean ====
section
/-! DEFINITION. The commands of the AS312: one constructor of `Instr` for each row of
spec/opcode_table.json, with the row's operands, and the small types those operands are made of.
The operands of a station-port command are the record's fields as received (Table 11.3), each in
the width it has on the line, so that the command's own checks see what the controller sent. -/

namespace Sys2Proof

/-- The three stations, and with them the station ports and the transmitter links. -/
inductive Station where
  | a | b | c
deriving DecidableEq, Repr

/-- A contactor position (R1). -/
inductive Pos where
  | a | b
deriving DecidableEq, Repr

/-- A sense value: a position, NONE or BOTH (R5). -/
inductive Sense where
  | pos (p : Pos) | none | both
deriving DecidableEq, Repr

/-- The receiving links that keep a link error count (R152): three ports, the monitor link and
three transmitter links. -/
inductive Link where
  | port (p : Station) | monitor | transmitter (st : Station)
deriving DecidableEq, Repr

/-- Why the receive assembler discards a record at once or at its end (R151). -/
inductive DiscardCause where
  | lengthOutOfRange | lengthByteError | byteError | checkMismatch
deriving DecidableEq, Repr

/-- Which limit closes the starts of a drive job (R50). -/
inductive CloseCause where
  | hold | hotPause
deriving DecidableEq, Repr

/-- The three bytes of a LOAD MAP entry (Table 11.3). -/
structure RawMapEntry where
  placement : Byte
  ownerStage : Byte
  travelLimit : Byte
deriving DecidableEq, Repr

/-- The five bytes of a tower entry of LOAD PATTERN: tower, licensed ratio, licensed phase. -/
structure RawTower where
  tower : Byte
  ratio : Half
  phase : Half
deriving DecidableEq, Repr

/-- The fields of LOAD PATTERN behind its tower entries (Table 11.3). -/
structure RawHeader where
  reference : Byte
  licensedPower : Half
  ratioCaution : Half
  ratioOut : Half
  phaseCaution : Half
  phaseOut : Half
  cautionCap : Half
  outCap : Half
  proofLevel : Half
  settle : Half
  proofCount : Byte
  proofTimeout : Byte
deriving DecidableEq, Repr

/-- The commands of the part. A station-port command names the port whose controller sent it and
carries the record's tag. -/
inductive Instr where
  -- lines
  | powerOnReset (baudHigh : Bool)
  | restart
  | localAssert (st : Station)
  | localRelease (st : Station)
  | holdAssert
  | holdRelease
  -- timers and scans
  | senseEvent (k : Fin 96)
  | firstValueDeadline
  | travelLimitExpiry (k : Fin 96)
  | driveJobStartsClosed (cause : CloseCause)
  | muteTimerExpiry
  | holdLimitReached
  | hotPauseLimitReached
  | settleTimerExpiry
  | proofTimerExpiry
  | waitLimitExpiry (id : Nat)
  | monitorTimerExpiry (st : Station)
  | coldDwellExpiry (st : Station)
  | reportTimeoutExpiry (st : Station)
  | rampTick (st : Station)
  -- links
  | portRecordReceived (p : Station) (body : List Byte)
  | sampleSet (body : List Byte)
  | powerReport (st : Station) (body : List Byte)
  | discardedRecord (link : Link) (cause : DiscardCause)
  | interbyteTimeout (link : Link)
  | transmitComplete (p : Station)
  | permitTransmitComplete (st : Station)
  -- configuration commands
  | loadSite (p : Station) (tag cPresent strokeWidth : Byte) (holdLimit : Half) (muteTimeout : Byte)
  | loadStation (p : Station) (tag station coldThreshold : Byte)
      (coldDwell reportTimeout rampStep : Half) (monitorTimeout escalate deescalate : Byte)
  | loadMap (p : Station) (tag first count : Byte) (entries : List RawMapEntry)
  | loadPattern (p : Station) (tag station slot n : Byte) (towers : List RawTower) (hdr : RawHeader)
  | loadPositions (p : Station) (tag station slot : Byte) (banks : Half) (positions : List Byte)
  | clearSlot (p : Station) (tag station slot : Byte)
  | drive (p : Station) (tag : Byte) (banks : Half) (positions : List Byte)
  | lock (p : Station) (tag : Byte)
  -- operating commands
  | request (p : Station) (tag slot allowCollateral : Byte) (waitLimit : Half)
  | cancel (p : Station) (tag id : Byte)
  | consent (p : Station) (tag value : Byte)
  | limit (p : Station) (tag : Byte) (value : Half)
  | sync (p : Station) (tag : Byte)
  -- reads
  | status (p : Station) (tag : Byte)
  | readContactors (p : Station) (tag first count : Byte)
  | readPattern (p : Station) (tag station slot : Byte)
  | readTowers (p : Station) (tag station : Byte)
  | readQueue (p : Station) (tag : Byte)
  | readFaults (p : Station) (tag : Byte)
  | readClipLog (p : Station) (tag station : Byte)
  -- clears and port control
  | clearClipLog (p : Station) (tag : Byte) (mask : Half)
  | clearFault (p : Station) (tag index : Byte)
  | resume (p : Station) (tag : Byte)
  | reclaim (p : Station) (tag : Byte)
  | illegal (p : Station) (body : List Byte)
  -- the remaining line and link events
  | rawSenseChange (k : Fin 96) (value : Sense)
  | startByte (link : Link)
  | porAsserted
  | restartLineRelease
deriving DecidableEq, Repr

end Sys2Proof
end

