-- ==== Sys2Proof/Decode.lean ====
section
/-! DEFINITION. The bytes of the station-port command records (Table 11.3), in both directions, and
their decoding (R167): a record is a command when its kind is a command kind and its body has the
length the table gives for that kind, and ILLEGAL otherwise. Decoding is total and loses no bit of
the body. `decodeTableWord` stands here too: spec/opcode_table.json gives no row any bits. -/

namespace Sys2Proof

/-! ## Byte order (Table 11.2: unsigned, high byte first) -/

/-- A two-byte number from its high and its low byte. -/
def half (hi lo : Byte) : Half := hi ++ lo

/-- The high byte of a two-byte number. -/
def Half.hi (h : Half) : Byte := h.extractLsb' 8 8

/-- The low byte of a two-byte number. -/
def Half.lo (h : Half) : Byte := h.extractLsb' 0 8

/-- A two-byte number as it stands in a body. -/
def Half.bytes (h : Half) : List Byte := [Half.hi h, Half.lo h]

/-- The low byte of a number. -/
def byte1 (n : Nat) : List Byte := [BitVec.ofNat 8 n]

/-- A number in two bytes, high byte first. -/
def byte2 (n : Nat) : List Byte := [BitVec.ofNat 8 (n / 256), BitVec.ofNat 8 n]

/-- A number in four bytes, high byte first. -/
def byte4 (n : Nat) : List Byte := byte2 (n / 65536) ++ byte2 n

/-- The body of a whole record has 2 to 250 bytes (Table 11.1, R151). -/
def bodyFits (body : List Byte) : Bool :=
  decide (Config.minBody ≤ body.length) && decide (body.length ≤ Config.maxBody)

/-! ## The kinds of the command records (Table 11.3) -/

/-- The command kinds, by name. -/
inductive CmdKind where
  | loadSite | loadStation | loadMap | loadPattern | loadPositions | clearSlot | drive | lock
  | request | cancel | consent | limit | sync
  | status | readContactors | readPattern | readTowers | readQueue | readFaults | readClipLog
  | clearClipLog | clearFault | resume | reclaim
deriving DecidableEq, Repr

/-- The kind byte of a command (Table 11.3). -/
def CmdKind.code : CmdKind → Byte
  | .loadSite => 0x01
  | .loadStation => 0x02
  | .loadMap => 0x03
  | .loadPattern => 0x04
  | .loadPositions => 0x05
  | .clearSlot => 0x06
  | .drive => 0x07
  | .lock => 0x08
  | .request => 0x10
  | .cancel => 0x11
  | .consent => 0x12
  | .limit => 0x13
  | .sync => 0x14
  | .status => 0x20
  | .readContactors => 0x21
  | .readPattern => 0x22
  | .readTowers => 0x23
  | .readQueue => 0x24
  | .readFaults => 0x25
  | .readClipLog => 0x26
  | .clearClipLog => 0x27
  | .clearFault => 0x28
  | .resume => 0x29
  | .reclaim => 0x2A

/-- Every command kind. -/
def CmdKind.all : List CmdKind :=
  [.loadSite, .loadStation, .loadMap, .loadPattern, .loadPositions, .clearSlot, .drive, .lock,
   .request, .cancel, .consent, .limit, .sync,
   .status, .readContactors, .readPattern, .readTowers, .readQueue, .readFaults, .readClipLog,
   .clearClipLog, .clearFault, .resume, .reclaim]

/-- The command kind a kind byte names, if any. -/
def CmdKind.ofByte? (b : Byte) : Option CmdKind := CmdKind.all.find? (fun k => k.code == b)

/-! ## Counted fields -/

/-- The banks 0 to 11 that a bank enable names; bits 12 to 15 are ignored (R167). -/
def banksOf (enable : Half) : List Nat := (List.range Config.banks).filter (fun b => enable.getLsbD b)

/-- The bytes of a LOAD MAP entry. -/
def RawMapEntry.bytes (e : RawMapEntry) : List Byte := [e.placement, e.ownerStage, e.travelLimit]

/-- LOAD MAP entries from bytes, three bytes each. -/
def mapEntries? : List Byte → Option (List RawMapEntry)
  | [] => some []
  | x :: y :: z :: rest => (mapEntries? rest).map (fun es => ⟨x, y, z⟩ :: es)
  | _ => none

/-- The bytes of a LOAD PATTERN tower entry. -/
def RawTower.bytes (t : RawTower) : List Byte := t.tower :: (Half.bytes t.ratio ++ Half.bytes t.phase)

/-- The first `n` tower entries of LOAD PATTERN and the bytes behind them. -/
def towers? : Nat → List Byte → Option (List RawTower × List Byte)
  | 0, rest => some ([], rest)
  | n + 1, t :: r1 :: r0 :: p1 :: p0 :: rest =>
    (towers? n rest).map (fun q => (⟨t, half r1 r0, half p1 p0⟩ :: q.1, q.2))
  | _ + 1, _ => none

/-- The bytes of LOAD PATTERN behind its tower entries. -/
def RawHeader.bytes (h : RawHeader) : List Byte :=
  h.reference :: (Half.bytes h.licensedPower ++ Half.bytes h.ratioCaution ++ Half.bytes h.ratioOut
    ++ Half.bytes h.phaseCaution ++ Half.bytes h.phaseOut ++ Half.bytes h.cautionCap
    ++ Half.bytes h.outCap ++ Half.bytes h.proofLevel ++ Half.bytes h.settle
    ++ [h.proofCount, h.proofTimeout])

/-- The fields of LOAD PATTERN behind its tower entries: 21 bytes. -/
def header? : List Byte → Option RawHeader
  | [r, lp1, lp0, rc1, rc0, ro1, ro0, pc1, pc0, po1, po0, cc1, cc0, oc1, oc0, pl1, pl0, st1, st0,
      pcnt, ptmo] =>
    some ⟨r, half lp1 lp0, half rc1 rc0, half ro1 ro0, half pc1 pc0, half po1 po0, half cc1 cc0,
      half oc1 oc0, half pl1 pl0, half st1 st0, pcnt, ptmo⟩
  | _ => none

/-! ## Decoding (R167) -/

/-- The command of a kind and the fields behind its tag, when the body length is the kind's. -/
def decodeFields (p : Station) (tag : Byte) : CmdKind → List Byte → Option Instr
  | .loadSite, [c, w, h1, h0, m] => some (.loadSite p tag c w (half h1 h0) m)
  | .loadStation, [st, th, d1, d0, t1, t0, r1, r0, m, e, d] =>
    some (.loadStation p tag st th (half d1 d0) (half t1 t0) (half r1 r0) m e d)
  | .loadMap, first :: count :: rest =>
    match mapEntries? rest with
    | some es => if es.length = count.toNat then some (.loadMap p tag first count es) else none
    | none => none
  | .loadPattern, st :: slot :: n :: rest =>
    match towers? n.toNat rest with
    | some (ts, rest') => (header? rest').map (fun h => .loadPattern p tag st slot n ts h)
    | none => none
  | .loadPositions, st :: slot :: b1 :: b0 :: rest =>
    if rest.length = 8 * (banksOf (half b1 b0)).length
    then some (.loadPositions p tag st slot (half b1 b0) rest) else none
  | .clearSlot, [st, slot] => some (.clearSlot p tag st slot)
  | .drive, b1 :: b0 :: rest =>
    if rest.length = 8 * (banksOf (half b1 b0)).length
    then some (.drive p tag (half b1 b0) rest) else none
  | .lock, [] => some (.lock p tag)
  | .request, [slot, al, w1, w0] => some (.request p tag slot al (half w1 w0))
  | .cancel, [i] => some (.cancel p tag i)
  | .consent, [v] => some (.consent p tag v)
  | .limit, [v1, v0] => some (.limit p tag (half v1 v0))
  | .sync, [] => some (.sync p tag)
  | .status, [] => some (.status p tag)
  | .readContactors, [f, c] => some (.readContactors p tag f c)
  | .readPattern, [st, slot] => some (.readPattern p tag st slot)
  | .readTowers, [st] => some (.readTowers p tag st)
  | .readQueue, [] => some (.readQueue p tag)
  | .readFaults, [] => some (.readFaults p tag)
  | .readClipLog, [st] => some (.readClipLog p tag st)
  | .clearClipLog, [m1, m0] => some (.clearClipLog p tag (half m1 m0))
  | .clearFault, [i] => some (.clearFault p tag i)
  | .resume, [] => some (.resume p tag)
  | .reclaim, [] => some (.reclaim p tag)
  | _, _ => none

/-- R167: the command a body spells, if it is one. -/
def decodeCommand? (p : Station) : List Byte → Option Instr
  | kind :: tag :: fields =>
    match CmdKind.ofByte? kind with
    | some k => decodeFields p tag k fields
    | none => none
  | _ => none

/-- R167: what a port executes for a record of its queue: the command its body spells, or ILLEGAL. -/
def decodeRecord (p : Station) (body : List Byte) : Instr :=
  (decodeCommand? p body).getD (.illegal p body)

/-! ## The records of the commands -/

/-- The body of a command record: its kind, its tag and its fields. -/
def bodyOf (k : CmdKind) (tag : Byte) (fields : List Byte) : List Byte := k.code :: tag :: fields

/-- The port and the record body of a station-port command (Table 11.3); none for every other
command of the part. -/
def encodeRecord : Instr → Option (Station × List Byte)
  | .loadSite p tag c w h m => some (p, bodyOf .loadSite tag ([c, w] ++ Half.bytes h ++ [m]))
  | .loadStation p tag st th d t r m e dd =>
    some (p, bodyOf .loadStation tag
      ([st, th] ++ Half.bytes d ++ Half.bytes t ++ Half.bytes r ++ [m, e, dd]))
  | .loadMap p tag f c es => some (p, bodyOf .loadMap tag ([f, c] ++ es.flatMap RawMapEntry.bytes))
  | .loadPattern p tag st slot n ts h =>
    some (p, bodyOf .loadPattern tag ([st, slot, n] ++ ts.flatMap RawTower.bytes ++ h.bytes))
  | .loadPositions p tag st slot b ps =>
    some (p, bodyOf .loadPositions tag ([st, slot] ++ Half.bytes b ++ ps))
  | .clearSlot p tag st slot => some (p, bodyOf .clearSlot tag [st, slot])
  | .drive p tag b ps => some (p, bodyOf .drive tag (Half.bytes b ++ ps))
  | .lock p tag => some (p, bodyOf .lock tag [])
  | .request p tag slot al w => some (p, bodyOf .request tag ([slot, al] ++ Half.bytes w))
  | .cancel p tag i => some (p, bodyOf .cancel tag [i])
  | .consent p tag v => some (p, bodyOf .consent tag [v])
  | .limit p tag v => some (p, bodyOf .limit tag (Half.bytes v))
  | .sync p tag => some (p, bodyOf .sync tag [])
  | .status p tag => some (p, bodyOf .status tag [])
  | .readContactors p tag f c => some (p, bodyOf .readContactors tag [f, c])
  | .readPattern p tag st slot => some (p, bodyOf .readPattern tag [st, slot])
  | .readTowers p tag st => some (p, bodyOf .readTowers tag [st])
  | .readQueue p tag => some (p, bodyOf .readQueue tag [])
  | .readFaults p tag => some (p, bodyOf .readFaults tag [])
  | .readClipLog p tag st => some (p, bodyOf .readClipLog tag [st])
  | .clearClipLog p tag m => some (p, bodyOf .clearClipLog tag (Half.bytes m))
  | .clearFault p tag i => some (p, bodyOf .clearFault tag [i])
  | .resume p tag => some (p, bodyOf .resume tag [])
  | .reclaim p tag => some (p, bodyOf .reclaim tag [])
  | .illegal p body => some (p, body)
  | .powerOnReset _ => none
  | .restart => none
  | .localAssert _ => none
  | .localRelease _ => none
  | .holdAssert => none
  | .holdRelease => none
  | .senseEvent _ => none
  | .firstValueDeadline => none
  | .travelLimitExpiry _ => none
  | .driveJobStartsClosed _ => none
  | .muteTimerExpiry => none
  | .holdLimitReached => none
  | .hotPauseLimitReached => none
  | .settleTimerExpiry => none
  | .proofTimerExpiry => none
  | .waitLimitExpiry _ => none
  | .monitorTimerExpiry _ => none
  | .coldDwellExpiry _ => none
  | .reportTimeoutExpiry _ => none
  | .rampTick _ => none
  | .portRecordReceived _ _ => none
  | .sampleSet _ => none
  | .powerReport _ _ => none
  | .discardedRecord _ _ => none
  | .interbyteTimeout _ => none
  | .transmitComplete _ => none
  | .permitTransmitComplete _ => none
  | .rawSenseChange _ _ => none
  | .startByte _ => none
  | .porAsserted => none
  | .restartLineRelease => none

/-- spec/opcode_table.json gives none of its rows any bits, so no table word spells a command. -/
def decodeTableWord (_nbits _w : Nat) : Option Instr := none

end Sys2Proof
end

