-- ==== Sys2Proof/Machine/State.lean ====
section
/-! DEFINITION. What the AS312 holds, block by block (Table 2 of the introduction), as plain data;
the two outcomes besides a next state; and the part right after power-on reset. Every time is a
count of milliseconds of the time base. A timer is held as the moment it expires, a timer that
counts up as the moment it started, a stopped timer as `none`. -/

namespace Sys2Proof.Machine

/-! ## Small types -/

/-- One value for each station. -/
structure PerStation (α : Type) where
  a : α
  b : α
  c : α
deriving DecidableEq, Repr

/-- A set of stations (Table 11.2). -/
structure StationSet where
  a : Bool
  b : Bool
  c : Bool
deriving DecidableEq, Repr

/-- The device mode (R40). -/
inductive Mode where
  | config | run
deriving DecidableEq, Repr

/-- The serial rate strap, read at power-on reset (R41). -/
inductive Baud where
  | b9600 | b38400
deriving DecidableEq, Repr

/-- A conformance class, best first (R110). -/
inductive Grade where
  | inBand | caution | out
deriving DecidableEq, Repr

/-! ## Contactor Table, Sense Scanner and Coil Drive (Chapter 1) -/

/-- Where a contactor sits (Table 1.1). -/
inductive Placement where
  | tower (t : Fin 12) | phasor (st : Station)
deriving DecidableEq, Repr

/-- The map half of an entry (Table 1.1); the travel limit is in milliseconds. -/
structure MapEntry where
  placement : Placement
  owners : StationSet
  stage : Fin 4
  travelLimit : Nat
deriving DecidableEq, Repr

/-- The seven contactor states (Table 1.2): AT_A and AT_B, TRAVEL_A and TRAVEL_B, STUCK, LOST,
CONFLICT. -/
inductive CState where
  | at (p : Pos) | travel (p : Pos) | stuck | lost | conflict
deriving DecidableEq, Repr

/-- Which coil of a contactor is energised (R13). -/
inductive Coil where
  | off | on (p : Pos)
deriving DecidableEq, Repr

/-- One contactor: its map half and dynamic half (Contactor Table), its energised coil (Coil Drive),
and its raw value, debounced value and debounce timer (Sense Scanner). -/
structure Contactor where
  map : MapEntry
  state : CState
  commanded : Pos
  driveStart : Option Nat
  travelExpiry : Option Nat
  coil : Coil
  raw : Sense
  debounced : Option Sense
  debounceExpiry : Option Nat
deriving DecidableEq, Repr

/-! ## Pattern Table (Chapter 2) -/

/-- A tower of a tower list with its licensed ratio and licensed phase (Table 2.1). -/
structure TowerLicence where
  tower : Nat
  ratio : Nat
  phase : Nat
deriving DecidableEq, Repr

/-- A LOADED slot: the header fields of Table 2.1 and the position map, one entry for each of
K0 to K95, `none` for FREE. -/
structure Pattern where
  towers : List TowerLicence
  reference : Nat
  licensedPower : Nat
  ratioCaution : Nat
  ratioOut : Nat
  phaseCaution : Nat
  phaseOut : Nat
  cautionCap : Nat
  outCap : Nat
  proofLevel : Nat
  settle : Nat
  proofCount : Nat
  proofTimeout : Nat
  positions : List (Option Pos)
deriving DecidableEq, Repr

/-! ## Station Table (section 2.6) -/

/-- A station's state with its current slot (R34). -/
inductive StationState where
  | none | steady (slot : Fin 4) | proving (slot : Fin 4) | mixed
deriving DecidableEq, Repr

/-- A station's consent (R36). -/
inductive Consent where
  | allow | deny
deriving DecidableEq, Repr

/-- A station record (Table 2.4). -/
structure StationRecord where
  present : Bool
  state : StationState
  consent : Consent
  localLimit : Nat
  coldThreshold : Nat
  coldDwell : Nat
  reportTimeout : Nat
  rampStep : Nat
  monitorTimeout : Nat
  escalate : Nat
  deescalate : Nat
deriving DecidableEq, Repr

/-- The site parameters besides presence (R38): stroke width, hold limit and mute timeout, the last
two in seconds. -/
structure Site where
  strokeWidth : Nat
  holdLimit : Nat
  muteTimeout : Nat
deriving DecidableEq, Repr

/-! ## Transition Queue and Transition Engine (Chapters 3 to 6) -/

/-- The stages a record in the queue can stand in (Table 4.1). A record whose stage becomes ENDED
leaves the queue in the same step (R55), so ENDED is held by no record. -/
inductive Stage where
  | queued | muting | moving | settling | proving | aborting
deriving DecidableEq, Repr

/-- The results of a transition (Table 4.2). -/
inductive TResult where
  | done | cancelled | superseded | expired | conflict | needsCollateral | failedHot
  | failedContactor | failedHold | failedProof | endedLocal
deriving DecidableEq, Repr

/-- A contactor with the position it is to reach. -/
structure Move where
  contactor : Nat
  target : Pos
deriving DecidableEq, Repr

/-- What a granted record holds: the grant fields of Table 4.1, and beside them what the engine
keeps for it (R74). `holdTime` is the record's hold time in whole seconds as it last stood while no
hold timer runs. -/
structure Flight where
  moves : List Move
  muteSet : StationSet
  collateral : StationSet
  arrivals : Nat
  failures : Nat
  holdTime : Nat
  proofRun : Nat
  mutePlaced : Bool
  strokes : List Nat
  waiting : List Move
  muteExpiry : Option Nat
  holdStart : Option Nat
  hotStart : Option Nat
  abortResult : Option TResult
  settleExpiry : Option Nat
  proofExpiry : Option Nat
deriving DecidableEq, Repr

/-- A transition record (Table 4.1); wait limit and accepted-at in seconds. -/
structure TRecord where
  id : Nat
  station : Station
  target : Fin 4
  allowCollateral : Bool
  waitLimit : Nat
  acceptedAt : Nat
  waitExpiry : Option Nat
  stage : Stage
  waitingConsent : Bool
  flight : Option Flight
deriving DecidableEq, Repr

/-- A drive job (R48). `job` holds every contactor of the job with its target, `moves` the move
set. -/
structure DriveJob where
  port : Station
  job : List Move
  moves : List Move
  arrived : Nat
  failed : Nat
  notDriven : Nat
  strokes : List Nat
  waiting : List Move
  holdStart : Option Nat
  hotStart : Option Nat
  closed : Option CloseCause
deriving DecidableEq, Repr

/-- What the engine holds (R74): nothing, the granted record with this id, or a drive job. -/
inductive Engine where
  | free | transition (id : Nat) | drive (job : DriveJob)
deriving DecidableEq, Repr

/-! ## Conformance Unit (Chapter 7) -/

/-- A tower conformance record (Table 7.1). -/
structure TowerRecord where
  tower : Nat
  ratio : Nat
  saturated : Bool
  ratioDev : Int
  phaseDev : Int
  raw : Grade
  current : Grade
  escalate : Nat
  deescalate : Nat
deriving DecidableEq, Repr

/-- What the Conformance Unit holds for a station (R110). -/
structure Conformance where
  towers : List TowerRecord
  monitorExpiry : Option Nat
  lost : Bool
deriving DecidableEq, Repr

/-! ## Permit Unit (Chapter 8) -/

/-- The cold states (R128). -/
inductive Cold where
  | unknown | hot | cooling | cold
deriving DecidableEq, Repr

/-- The eight causes (R137). -/
inductive Cause where
  | pattern | mute | caution | out | monitor | contactor | limit | ramp
deriving DecidableEq, Repr

/-- A set of clip causes (R137). -/
structure CauseSet where
  pattern : Bool
  mute : Bool
  caution : Bool
  out : Bool
  monitor : Bool
  contactor : Bool
  limit : Bool
  ramp : Bool
deriving DecidableEq, Repr

/-- A cap: whether it applies, and its value as it was formed (R131); `none` where the manual gives
the formation no value (log entry 4). -/
structure Cap where
  applies : Bool
  value : Option Nat
deriving DecidableEq, Repr

/-- The seven caps of Table 8.2. -/
structure Caps where
  pattern : Cap
  mute : Cap
  caution : Cap
  out : Cap
  monitor : Cap
  contactor : Cap
  limit : Cap
deriving DecidableEq, Repr

/-- What the Permit Unit holds for a station. -/
structure Permit where
  cold : Cold
  dwellExpiry : Option Nat
  reportExpiry : Option Nat
  lastPower : Option Nat
  caps : Caps
  target : Nat
  output : Nat
  rampExpiry : Option Nat
  status : CauseSet
  log : CauseSet
deriving DecidableEq, Repr

/-- A transmitter link: its receive assembler, its link error count, and its transmit side with the
permit record in transmission and the one waiting (R135, R152). -/
structure TransmitterLink where
  collecting : Bool
  linkErrors : Nat
  sending : Option Nat
  waiting : Option Nat
deriving DecidableEq, Repr

/-- The monitor link: its receive assembler, its link error count and the invalid-set counts. -/
structure MonitorLink where
  collecting : Bool
  linkErrors : Nat
  invalidSets : PerStation Nat
deriving DecidableEq, Repr

/-! ## Fault List (Chapter 9) -/

/-- Where a fault arose (Table 9.1). -/
inductive FaultSource where
  | contactor (k : Nat) | station (st : Station)
deriving DecidableEq, Repr

/-- What happened (Table 9.1). -/
inductive FaultKind where
  | stuck | lost | conflict | uncommanded | linkSilent
deriving DecidableEq, Repr

/-- A fault record (Table 9.1); the times are in whole seconds. -/
structure FaultRecord where
  source : FaultSource
  kind : FaultKind
  firstSeen : Nat
  lastSeen : Nat
  count : Nat
deriving DecidableEq, Repr

/-- The Fault List (R142). -/
structure FaultList where
  records : List FaultRecord
  overflow : Bool
  dropped : Nat
deriving DecidableEq, Repr

/-! ## Station ports (Chapter 10) -/

/-- The result and refusal codes (Table 11.7). -/
inductive ResultCode where
  | ok | accepted | noChange | wrongMode | badValue | busy | noPattern | conflict | localPanel
  | stopped | notPresent | notCold | unknownId | late | invalid | illegal
deriving DecidableEq, Repr

/-- The notices (Table 11.5). -/
inductive Notice where
  | transitionEnded (id : Nat) (result : TResult)
  | collateral (id : Nat) (released : Bool)
  | stationState (state : StationState)
  | classChanged (grade : Grade)
  | monitorState (restored : Bool)
  | faultAdded (source : FaultSource) (kind : FaultKind)
  | localEntered
  | driveEnded (arrived failed notDriven : Nat) (closed : Option CloseCause)
deriving DecidableEq, Repr

/-- A reply as made: its kind, the command's tag, the result code, the overrun count it carries and
the fields behind them (Table 11.4). -/
structure Reply where
  kind : Byte
  tag : Byte
  code : ResultCode
  overrun : Nat
  fields : List Byte
deriving DecidableEq, Repr

/-- A record in transmission on a station port: a reply, or a notice with the lost count it
carries (R162). -/
inductive Sent where
  | reply (r : Reply) | notice (lost : Nat) (n : Notice)
deriving DecidableEq, Repr

/-- A SYNC waiting in execution: its tag and the noted ids still in the queue (R157). -/
structure SyncWait where
  tag : Byte
  ids : List Nat
deriving DecidableEq, Repr

/-- A port is OPEN, STOPPED or LOCAL (section 10.3). -/
inductive PortState where
  | isOpen | isStopped | isLocal
deriving DecidableEq, Repr

/-- A station port with its LOCAL line. A reply and a notice carry the moment they were made, which
`stamp` counts (R163). -/
structure Port where
  state : PortState
  localLine : Bool
  collecting : Bool
  linkErrors : Nat
  queue : List (List Byte)
  executing : Option SyncWait
  overrun : Nat
  reply : Option (Nat × Reply)
  notices : List (Nat × Notice)
  lost : Nat
  stamp : Nat
  sending : Option Sent
deriving DecidableEq, Repr

/-! ## The part -/

/-- Everything the AS312 holds, and the commands that wait for it. `por`, `hold` and `restartLine`
are true while their lines are asserted. `freeDraw` counts the free values drawn so far; it and
`pending` are the model's own. -/
structure State where
  por : Bool
  baud : Baud
  hold : Bool
  restartLine : Bool
  mode : Mode
  time : Nat
  scanReady : Bool
  firstValueExpiry : Option Nat
  contactors : List Contactor
  slots : PerStation (List (Option Pattern))
  stations : PerStation StationRecord
  site : Site
  queue : List TRecord
  nextId : Nat
  engine : Engine
  conformance : PerStation Conformance
  permits : PerStation Permit
  transmitters : PerStation TransmitterLink
  monitor : MonitorLink
  faults : FaultList
  ports : PerStation Port
  freeDraw : Nat
  pending : List Instr
deriving DecidableEq, Repr

/-! ## The outcomes besides a next state -/

/-- The reasons a step can fault. The AS312 gives every command an effect in every state, so there
is none. -/
inductive Fault where
deriving DecidableEq, Repr

/-- The reasons a command can be refused by the model. -/
inductive Refusal where
  /-- Raised by `exec` alone, for a command without a meaning in this model. No arm raises it: every
  row of the table has its meaning. Safe: the model would stop where the part goes on. -/
  | notModelled (mnemonic : String)
deriving DecidableEq, Repr

/-! ## Values after power-on reset -/

/-- The map half after power-on reset (R4). -/
def MapEntry.reset : MapEntry :=
  { placement := .tower 0, owners := ⟨false, false, false⟩, stage := 0, travelLimit := 500 }

/-- A contactor at power-on reset whose sense chain reads `raw`: held in LOST with commanded
position A until scan ready (R18), no coil energised (R13), no debounced value yet and its debounce
timer running for the raw value (R7). -/
def Contactor.reset (raw : Sense) : Contactor :=
  { map := MapEntry.reset, state := .lost, commanded := .a, driveStart := none, travelExpiry := none,
    coil := .off, raw := raw, debounced := none, debounceExpiry := some Config.debounceMs }

/-- A station record at power-on reset (Table 2.4). -/
def StationRecord.reset (present : Bool) : StationRecord :=
  { present := present, state := .none, consent := .allow, localLimit := 1000, coldThreshold := 10,
    coldDwell := 500, reportTimeout := 1000, rampStep := 50, monitorTimeout := 10, escalate := 3,
    deescalate := 5 }

/-- The site parameters at power-on reset (R38). -/
def Site.reset : Site := { strokeWidth := 2, holdLimit := 30, muteTimeout := 10 }

/-- An empty conformance list (R110). -/
def Conformance.empty : Conformance := { towers := [], monitorExpiry := none, lost := false }

/-- The empty set of causes. -/
def CauseSet.empty : CauseSet := ⟨false, false, false, false, false, false, false, false⟩

/-- A cap that does not apply and was never formed. -/
def Cap.unformed : Cap := { applies := false, value := none }

/-- The caps of a station that is not present. -/
def Caps.unformed : Caps := ⟨.unformed, .unformed, .unformed, .unformed, .unformed, .unformed, .unformed⟩

/-- The permit state of a station that is not present (R141). -/
def Permit.absent : Permit :=
  { cold := .unknown, dwellExpiry := none, reportExpiry := none, lastPower := none, caps := Caps.unformed,
    target := 0, output := 0, rampExpiry := none, status := CauseSet.empty, log := CauseSet.empty }

/-- The permit state of a present station at power-on reset: NONE at zero power, with status and log
{PATTERN} (R141). -/
def Permit.reset : Permit :=
  { Permit.absent with
    caps :=
      { pattern := ⟨true, some 0⟩, mute := ⟨false, some 0⟩, caution := Cap.unformed, out := Cap.unformed,
        monitor := Cap.unformed, contactor := ⟨false, some 0⟩, limit := ⟨true, some 1000⟩ }
    status := { CauseSet.empty with pattern := true }
    log := { CauseSet.empty with pattern := true } }

/-- A transmitter link at power-on reset, with the permit record it has begun (R41). -/
def TransmitterLink.reset (sending : Option Nat) : TransmitterLink :=
  { collecting := false, linkErrors := 0, sending := sending, waiting := none }

/-- A station port at power-on reset with its LOCAL line released (R165). -/
def Port.reset : Port :=
  { state := .isOpen, localLine := false, collecting := false, linkErrors := 0, queue := [],
    executing := none, overrun := 0, reply := none, notices := [], lost := 0, stamp := 0,
    sending := none }

/-- The part right after power-on reset (R41), the command queue empty. The manual gives no level to
the lines, the strap and the sense inputs, which are the site's: released, low and open here
(log entry 1). -/
def State.reset : State :=
  { por := false, baud := .b9600, hold := false, restartLine := false, mode := .config, time := 0,
    scanReady := false, firstValueExpiry := some Config.firstValueMs,
    contactors := List.replicate Config.contactors (Contactor.reset .none),
    slots := ⟨List.replicate 4 none, List.replicate 4 none, List.replicate 4 none⟩,
    stations := ⟨.reset true, .reset true, .reset false⟩, site := Site.reset, queue := [], nextId := 1,
    engine := .free, conformance := ⟨.empty, .empty, .empty⟩,
    permits := ⟨.reset, .reset, .absent⟩,
    transmitters := ⟨.reset (some 0), .reset (some 0), .reset none⟩,
    monitor := { collecting := false, linkErrors := 0, invalidSets := ⟨0, 0, 0⟩ },
    faults := { records := [], overflow := false, dropped := 0 },
    ports := ⟨.reset, .reset, .reset⟩, freeDraw := 0, pending := [] }

end Sys2Proof.Machine
end

