-- ==== Sys2Proof/Machine/Ops.lean ====
section
/-! DEFINITION. The named operations over the part's blocks: one home for each read and write, the
saturating counts, the time base, the station ports' transmit side (R162, R163), the permit records
(R135), the Fault List (R144 to R147), the pattern questions (R29 to R32) and the records of the
Transition Queue (R55, R157). -/

namespace Sys2Proof.Machine

/-! ## Stations and sets of stations -/

/-- The stations in the order A, B, C. -/
def allStations : List Station := [.a, .b, .c]

def PerStation.get {α : Type} (t : PerStation α) : Station → α
  | .a => t.a
  | .b => t.b
  | .c => t.c

def PerStation.modify {α : Type} (t : PerStation α) (st : Station) (f : α → α) : PerStation α :=
  match st with
  | .a => { t with a := f t.a }
  | .b => { t with b := f t.b }
  | .c => { t with c := f t.c }

def PerStation.mapAll {α : Type} (f : Station → α → α) (t : PerStation α) : PerStation α :=
  ⟨f .a t.a, f .b t.b, f .c t.c⟩

def StationSet.has (t : StationSet) : Station → Bool
  | .a => t.a
  | .b => t.b
  | .c => t.c

/-- The set of the stations for which `f` holds. -/
def StationSet.of (f : Station → Bool) : StationSet := ⟨f .a, f .b, f .c⟩

def StationSet.isEmpty (t : StationSet) : Bool := !(t.a || t.b || t.c)

/-- The members in the order A, B, C. -/
def StationSet.members (t : StationSet) : List Station := allStations.filter t.has

/-! ## Reading and writing the blocks -/

def State.station (s : State) (st : Station) : StationRecord := s.stations.get st
def State.permit (s : State) (st : Station) : Permit := s.permits.get st
def State.port (s : State) (p : Station) : Port := s.ports.get p
def State.conf (s : State) (st : Station) : Conformance := s.conformance.get st
def State.transmitter (s : State) (st : Station) : TransmitterLink := s.transmitters.get st

def State.modStation (st : Station) (f : StationRecord → StationRecord) (s : State) : State :=
  { s with stations := s.stations.modify st f }
def State.modPermit (st : Station) (f : Permit → Permit) (s : State) : State :=
  { s with permits := s.permits.modify st f }
def State.modPort (p : Station) (f : Port → Port) (s : State) : State :=
  { s with ports := s.ports.modify p f }
def State.modConf (st : Station) (f : Conformance → Conformance) (s : State) : State :=
  { s with conformance := s.conformance.modify st f }
def State.modTransmitter (st : Station) (f : TransmitterLink → TransmitterLink) (s : State) : State :=
  { s with transmitters := s.transmitters.modify st f }

/-- The entry of contactor `k`. -/
def State.contactor (s : State) (k : Nat) : Contactor := s.contactors.getD k (Contactor.reset .none)
def State.modContactor (k : Nat) (f : Contactor → Contactor) (s : State) : State :=
  { s with contactors := s.contactors.modify k f }

/-- Whether a contactor is used: its owner set is not empty (R3). -/
def Contactor.used (c : Contactor) : Bool := !c.map.owners.isEmpty

/-! ## Counts and time -/

/-- A count that stays at its top value once it reaches it. -/
def satInc (top n : Nat) : Nat := if n < top then n + 1 else n

/-- A time in whole seconds: the low 32 bits of the time base over 1000 (R142). -/
def seconds (ms : Nat) : Nat := ms / 1000 % 4294967296

/-- The time base at the moment `t`: an expiry that is taken as a command before the part's own
clock has reached it brings the time base to its moment (log entry 3). -/
def State.advanceTo (t : Nat) (s : State) : State := { s with time := max s.time t }

/-! ## Station ports: replies and notices (R154, R155, R162, R163) -/

/-- R163: a free transmit side begins the record made earlier of the reply in the slot and the oldest
notice. A notice begun carries the lost count, which becomes 0 (R162). -/
def Port.beginSending (p : Port) : Port :=
  match p.sending, p.reply, p.notices with
  | some _, _, _ => p
  | none, none, [] => p
  | none, some (_, r), [] => { p with sending := some (.reply r), reply := none }
  | none, none, (_, n) :: rest =>
    { p with sending := some (.notice p.lost n), notices := rest, lost := 0 }
  | none, some (t, r), (u, n) :: rest =>
    if t < u then { p with sending := some (.reply r), reply := none }
    else { p with sending := some (.notice p.lost n), notices := rest, lost := 0 }

/-- R162: a notice joins the tail of the notice queue, or is dropped and counted when it holds 16. -/
def Port.queueNotice (n : Notice) (p : Port) : Port :=
  if p.notices.length < Config.noticeQueueMax then
    { p with notices := p.notices ++ [(p.stamp, n)], stamp := p.stamp + 1 }
  else { p with lost := satInc 255 p.lost }

/-- R162, R163: a port after a notice has been handed to it. -/
def Port.handed (n : Notice) (p : Port) : Port := (p.queueNotice n).beginSending

/-- A notice handed to a port. -/
def State.notify (p : Station) (n : Notice) (s : State) : State := s.modPort p (Port.handed n)

/-- R155: a reply is made into the reply slot; it carries the overrun count, which becomes 0
(R154). -/
def Port.makeReply (kind tag : Byte) (code : ResultCode) (fields : List Byte) (p : Port) : Port :=
  { p with
    reply := some (p.stamp, { kind, tag, code, overrun := p.overrun, fields })
    overrun := 0
    stamp := p.stamp + 1 }

/-- R155, R163: a port after a reply has been made on it. -/
def Port.answered (kind tag : Byte) (code : ResultCode) (fields : List Byte) (p : Port) : Port :=
  (p.makeReply kind tag code fields).beginSending

/-- A reply made on a port. -/
def State.answer (p : Station) (kind tag : Byte) (code : ResultCode) (fields : List Byte)
    (s : State) : State :=
  s.modPort p (Port.answered kind tag code fields)

/-- The kind byte of the reply to a command: the command's kind plus 80h (Table 11.4). -/
def replyKind (k : CmdKind) : Byte := k.code + 0x80

/-- The reply to a command of a kind. -/
def State.reply (p : Station) (k : CmdKind) (tag : Byte) (code : ResultCode) (fields : List Byte)
    (s : State) : State :=
  s.answer p (replyKind k) tag code fields

/-! ## Permit records (R135) -/

/-- R135: a permit record begins at once on an idle link, and otherwise becomes the waiting record,
replacing one not yet begun. -/
def TransmitterLink.makePermit (output : Nat) (l : TransmitterLink) : TransmitterLink :=
  match l.sending with
  | none => { l with sending := some output }
  | some _ => { l with waiting := some output }

def State.makePermit (st : Station) (output : Nat) (s : State) : State :=
  s.modTransmitter st (TransmitterLink.makePermit output)

/-! ## The Fault List (R144 to R147) -/

/-- Whether a record stands for this source and kind. -/
def FaultRecord.isFor (source : FaultSource) (kind : FaultKind) (r : FaultRecord) : Bool :=
  r.source == source && r.kind == kind

/-- R144: the record a fault is collapsed into. -/
def FaultRecord.collapse (now : Nat) (r : FaultRecord) : FaultRecord :=
  { r with count := satInc 255 r.count, lastSeen := now }

/-- R144 to R146: the list after a fault, and whether a new record was made. -/
def FaultList.take (now : Nat) (source : FaultSource) (kind : FaultKind) (l : FaultList) :
    FaultList × Bool :=
  if l.records.any (FaultRecord.isFor source kind) then
    ({ l with records := l.records.map (fun r => if r.isFor source kind then r.collapse now else r) },
      false)
  else if l.records.length < Config.faultListMax then
    ({ l with records := l.records ++
        [{ source, kind, firstSeen := now, lastSeen := now, count := 1 }] }, true)
  else ({ l with overflow := true, dropped := satInc 255 l.dropped }, false)

/-- R143 to R147: a fault handed to the list; a new record makes a FAULT ADDED notice on the ports
A, B and C in that order. -/
def State.raiseFault (source : FaultSource) (kind : FaultKind) (s : State) : State :=
  match s.faults.take (seconds s.time) source kind with
  | (l, true) =>
    ((({ s with faults := l }.notify .a (.faultAdded source kind)).notify .b
      (.faultAdded source kind)).notify .c (.faultAdded source kind))
  | (l, false) => { s with faults := l }

/-! ## The Pattern Table's answers (R29 to R32) -/

/-- The pattern of a slot, if it is LOADED. -/
def State.slot (s : State) (st : Station) (n : Fin 4) : Option Pattern :=
  (s.slots.get st).getD n.val none

/-- The current slot of a state (R34). -/
def StationState.slot : StationState → Option (Fin 4)
  | .none => Option.none
  | .steady n => some n
  | .proving n => some n
  | .mixed => Option.none

/-- The pattern of a station's current slot. -/
def State.currentPattern (s : State) (st : Station) : Option Pattern :=
  (s.station st).state.slot.bind (s.slot st)

/-- Whether a position-map entry asks for something the contactor does not give (R29). -/
def unsatisfied (c : Contactor) (e : Option Pos) : Bool :=
  match e with
  | none => false
  | some x => c.state != .at x

/-- R30: the number of unsatisfied requirements of a position map. -/
def unsatisfiedCount (cs : List Contactor) (positions : List (Option Pos)) : Nat :=
  (cs.zip positions).countP (fun q => unsatisfied q.1 q.2)

/-- R30: whether every requirement of a slot is satisfied; an EMPTY slot has none. -/
def State.allSatisfied (s : State) (st : Station) (n : Fin 4) : Bool :=
  match s.slot st n with
  | none => true
  | some p => unsatisfiedCount s.contactors p.positions == 0

/-- Whether all requirements of a station's current slot are satisfied; `true` without one. -/
def State.currentSatisfied (s : State) (st : Station) : Bool :=
  match (s.station st).state.slot with
  | none => true
  | some n => s.allSatisfied st n

/-- R31: a combination, as the position maps of the slots it assigns. -/
abbrev Combination := List (List (Option Pos))

/-- Whether some map of the combination requires contactor `k` at `x`. -/
def requires (c : Combination) (k : Nat) (x : Pos) : Bool :=
  c.any (fun m => m.getD k none == some x)

/-- R31: no contactor is required at A by one slot and at B by another. -/
def compatible (c : Combination) : Bool :=
  (List.range Config.contactors).all (fun k => !(requires c k .a && requires c k .b))

/-- R32: the combined requirement of contactor `k`. -/
def combined (c : Combination) (k : Nat) : Option Pos :=
  if requires c k .a then some .a else if requires c k .b then some .b else none

/-- The position map of a slot; an EMPTY slot requires nothing. -/
def State.positionsOf (s : State) (st : Station) (n : Fin 4) : List (Option Pos) :=
  match s.slot st n with
  | none => []
  | some p => p.positions

/-- R60, R69: the combination of a target slot and the current slots of the other present STEADY
stations. -/
def State.combination (s : State) (st : Station) (target : Fin 4) : Combination :=
  s.positionsOf st target :: allStations.filterMap (fun q =>
    if q = st then none
    else match (s.station q).present, (s.station q).state with
      | true, .steady n => some (s.positionsOf q n)
      | _, _ => none)

/-! ## Station state (R35) -/

/-- R35, R107: a change of a present station's state or slot queues STATION STATE on its port. A
station that has the state and slot already gets no notice, a requester already MIXED that ends from
ABORTING as MIXED among them (log entry 24). -/
def State.setStation (st : Station) (new : StationState) (s : State) : State :=
  let s' := s.modStation st (fun r => { r with state := new })
  if (s.station st).present && (s.station st).state != new then
    s'.notify st (.stationState new)
  else s'

/-! ## Transition records -/

/-- The first record of the queue with an id. -/
def State.record? (s : State) (id : Nat) : Option TRecord := s.queue.find? (fun r => r.id == id)

def State.modRecord (id : Nat) (f : TRecord → TRecord) (s : State) : State :=
  { s with queue := s.queue.map (fun r => if r.id = id then f r else r) }

/-- The granted record the engine holds, with what it keeps for it. -/
def State.flying (s : State) : Option (TRecord × Flight) :=
  match s.engine with
  | .transition id => (s.record? id).bind (fun r => r.flight.map (fun f => (r, f)))
  | _ => none

/-- A write to the record the engine holds. -/
def State.modGranted (f : TRecord → TRecord) (s : State) : State :=
  match s.engine with
  | .transition id => s.modRecord id f
  | _ => s

/-- A write to what the engine keeps for its record. -/
def State.modFlight (f : Flight → Flight) (s : State) : State :=
  s.modGranted (fun r => { r with flight := r.flight.map f })

def State.setStage (g : Stage) (s : State) : State := s.modGranted (fun r => { r with stage := g })

/-- The engine's drive job. -/
def State.driveJob (s : State) : Option DriveJob :=
  match s.engine with
  | .drive j => some j
  | _ => none

def State.modDriveJob (f : DriveJob → DriveJob) (s : State) : State :=
  match s.engine with
  | .drive j => { s with engine := .drive (f j) }
  | _ => s

/-- Whether a stage past QUEUED holds a mute (R78, Table 8.2). -/
def Stage.holdsMute : Stage → Bool
  | .queued => false
  | .muting => true
  | .moving => true
  | .settling => true
  | .proving => false
  | .aborting => true

/-- R74, R81: the hold time in whole seconds, as a running hold timer or the last value gives it. -/
def Flight.holdSeconds (now : Nat) (f : Flight) : Nat :=
  match f.holdStart with
  | some t => (now - t) / 1000
  | none => f.holdTime

/-- The hold timer and the hot-pause timer stop and the hold time keeps its last value (R86, R91). -/
def Flight.stopTimers (now : Nat) (f : Flight) : Flight :=
  { f with holdTime := f.holdSeconds now, holdStart := none, hotStart := none }

/-- R157: a waiting SYNC drops a record that has left the queue, and replies OK at the last one. -/
def State.syncLeft (p : Station) (id : Nat) (s : State) : State :=
  match (s.port p).executing with
  | none => s
  | some w =>
    if w.ids.contains id then
      match w.ids.filter (fun i => i != id) with
      | [] => (s.modPort p (fun q => { q with executing := none })).reply p .sync w.tag .ok []
      | rest => s.modPort p (fun q => { q with executing := some { w with ids := rest } })
    else s

/-- R55: a record ends: TRANSITION ENDED on the requester's port, the record leaves the queue, and
the engine is free if it held it. -/
def State.endRecord (id : Nat) (result : TResult) (s : State) : State :=
  match s.record? id with
  | none => s
  | some r =>
    let s := s.notify r.station (.transitionEnded id result)
    let s := { s with
      queue := s.queue.filter (fun q => q.id != id)
      engine := if s.engine = Engine.transition id then .free else s.engine }
    s.syncLeft r.station id

end Sys2Proof.Machine
end

