-- ==== Sys2Proof/Machine/Flags.lean ====
section
/-! DEFINITION. What the part computes as flags and limits: the seven caps, the target, the pattern
level and the clip-cause status of a station (R131, R132, R137), the recomputation that acts on the
permit output (R133, R134), and the ramp tick. -/

namespace Sys2Proof.Machine

/-! ## Sets of causes -/

def CauseSet.has (t : CauseSet) : Cause → Bool
  | .pattern => t.pattern
  | .mute => t.mute
  | .caution => t.caution
  | .out => t.out
  | .monitor => t.monitor
  | .contactor => t.contactor
  | .limit => t.limit
  | .ramp => t.ramp

/-- The set of the causes for which `f` holds. -/
def CauseSet.of (f : Cause → Bool) : CauseSet :=
  ⟨f .pattern, f .mute, f .caution, f .out, f .monitor, f .contactor, f .limit, f .ramp⟩

def CauseSet.union (t u : CauseSet) : CauseSet := CauseSet.of (fun c => t.has c || u.has c)
def CauseSet.diff (t u : CauseSet) : CauseSet := CauseSet.of (fun c => t.has c && !u.has c)

/-- The eight causes in the order of Table 11.2 (bits 0 to 7). -/
def allCauses : List Cause :=
  [.pattern, .mute, .caution, .out, .monitor, .contactor, .limit, .ramp]

/-! ## Classes (R110, R122) -/

def Grade.rank : Grade → Nat
  | .inBand => 0
  | .caution => 1
  | .out => 2

/-- The class `x` is worse than `y`. -/
def Grade.worse (x y : Grade) : Bool := decide (y.rank < x.rank)

def Grade.worst (x y : Grade) : Grade := if y.worse x then y else x

/-- R122: the worst current class over the towers of the list. -/
def Conformance.stationClass (c : Conformance) : Grade :=
  (c.towers.map TowerRecord.current).foldl Grade.worst .inBand

/-! ## Caps (R131) -/

/-- A per-mille figure of the licensed power, floored (R131). -/
def perMille (lp x : Nat) : Nat := lp * x / 1000

/-- R78, Table 8.2: the station is in the mute set of the record in flight while its mute is
placed. -/
def State.muteHolds (s : State) (st : Station) : Bool :=
  match s.flying with
  | some (_, f) => f.mutePlaced && f.muteSet.has st
  | none => false

def StationState.isSteady : StationState → Bool
  | .steady _ => true
  | _ => false

def StationState.isProving : StationState → Bool
  | .proving _ => true
  | _ => false

/-- The value of the PATTERN cap (Table 8.2). -/
def State.patternCap (s : State) (st : Station) : Nat :=
  match (s.station st).state, s.currentPattern st with
  | .steady _, some p => p.licensedPower
  | .proving _, some p => perMille p.licensedPower p.proofLevel
  | _, _ => 0

/-- R131: the seven caps of Table 8.2. -/
def State.formCaps (s : State) (st : Station) : Caps :=
  let r := s.station st
  let p := s.currentPattern st
  let cls := (s.conf st).stationClass
  let cc := p.map (fun q => perMille q.licensedPower q.cautionCap)
  { pattern := ⟨true, some (s.patternCap st)⟩
    mute := ⟨s.muteHolds st, some 0⟩
    caution := ⟨r.state.isSteady && cls == .caution, cc⟩
    out := ⟨r.state.isSteady && cls == .out, p.map (fun q => perMille q.licensedPower q.outCap)⟩
    monitor := ⟨r.state.isSteady && (s.conf st).lost, cc⟩
    contactor := ⟨(r.state.isSteady || r.state.isProving) && !s.currentSatisfied st, some 0⟩
    limit := ⟨true, some r.localLimit⟩ }

/-- The cap of a cause; RAMP has none. -/
def Caps.cap (c : Caps) : Cause → Cap
  | .pattern => c.pattern
  | .mute => c.mute
  | .caution => c.caution
  | .out => c.out
  | .monitor => c.monitor
  | .contactor => c.contactor
  | .limit => c.limit
  | .ramp => Cap.unformed

/-- The value of a cap that applies. -/
def Cap.active (c : Cap) : Option Nat := if c.applies then c.value else none

/-- R132: the least of the caps that apply; a target lies in 0 to 1000. -/
def Caps.target (c : Caps) : Nat :=
  (allCauses.filterMap (fun x => (c.cap x).active)).foldl min Config.fullScale

/-- R132: the pattern level. -/
def State.patternLevel (s : State) (st : Station) : Nat :=
  match s.currentPattern st with
  | some p => p.licensedPower
  | none => 0

/-- The cap applies and its value is below `level` (R137). -/
def Cap.clips (c : Cap) (level : Nat) : Bool :=
  match c.active with
  | some v => decide (v < level)
  | none => false

/-- R137: whether the PATTERN cause holds. -/
def State.patternClips (s : State) (st : Station) : Bool :=
  s.mode == .config ||
  match (s.station st).state with
  | .none => true
  | .mixed => true
  | .steady _ => false
  | .proving _ => decide (s.patternCap st < s.patternLevel st)

/-- R137: the clip-cause status of a present station with these caps, this target and this
output. -/
def State.clipStatus (s : State) (st : Station) (caps : Caps) (target output : Nat) : CauseSet :=
  CauseSet.of (fun c => match c with
    | .pattern => s.patternClips st
    | .ramp => decide (output < target)
    | x => (caps.cap x).clips (s.patternLevel st))

/-! ## Recomputation (R133, R134) -/

/-- R134: the permit state after a recomputation that formed these caps and this status function. -/
def Permit.recomputed (now : Nat) (caps : Caps) (status : Nat → Nat → CauseSet) (p : Permit) : Permit :=
  let target := caps.target
  let output := min target p.output
  let st := status target output
  { p with
    caps := caps
    target := target
    output := output
    rampExpiry := if target ≤ p.output then none
      else some (p.rampExpiry.getD (now + Config.rampMs))
    status := st
    log := p.log.union st }

/-- R133, R134, R138: a present station's caps, target, output, status and log are formed anew; a
change of output makes a permit record (R135). -/
def State.recompute (st : Station) (s : State) : State :=
  if (s.station st).present then
    let caps := s.formCaps st
    let p := s.permit st
    let q := p.recomputed s.time caps (s.clipStatus st caps)
    let s' := s.modPermit st (fun _ => q)
    if q.output = p.output then s' else s'.makePermit st q.output
  else s

/-- R134: a tick of the ramp timer. The status is formed at each change of output (R137). -/
def State.tickRamp (st : Station) (s : State) : State :=
  let p := s.permit st
  let output := p.output + min (s.station st).rampStep (p.target - p.output)
  let status := s.clipStatus st p.caps p.target output
  (s.modPermit st (fun p => { p with
    output := output
    rampExpiry := if output = p.target then none else some (s.time + Config.rampMs)
    status := status
    log := p.log.union status })).makePermit st output

/-- The recomputation of every station of a list. -/
def State.recomputeAll (sts : List Station) (s : State) : State :=
  sts.foldl (fun s st => s.recompute st) s

end Sys2Proof.Machine
end

