-- ==== Sys2Proof/Machine/Operands.lean ====
section
/-! DEFINITION. What a field of a record means: the encodings of Table 11.2 read into the part's own
types, `none` for a value outside its encoding (R168), the well-formedness of a map entry (R2) and
of a pattern header (R22), and the entries that go with a bank enable (R1). -/

namespace Sys2Proof.Machine

/-- A station field: 0 A, 1 B, 2 C. -/
def stationOf? (b : Byte) : Option Station :=
  if b = 0 then some .a else if b = 1 then some .b else if b = 2 then some .c else none

/-- A slot field: 0 to 3. -/
def slotOf? (b : Byte) : Option (Fin 4) :=
  if h : b.toNat < 4 then some ⟨b.toNat, h⟩ else none

/-- A position field: 0 A, 1 B, 2 FREE; `some none` is FREE. -/
def positionOf? (b : Byte) : Option (Option Pos) :=
  if b = 0 then some (some .a) else if b = 1 then some (some .b)
  else if b = 2 then some none else none

/-- A flag field of LOAD SITE or REQUEST: yes for any non-zero value. -/
def flagOf (b : Byte) : Bool := b != 0

/-- A placement field: 0 to 11 towers, 12 to 14 phasors A to C. -/
def placementOf? (b : Byte) : Option Placement :=
  if h : b.toNat < 12 then some (.tower ⟨b.toNat, h⟩)
  else if b = 12 then some (.phasor .a) else if b = 13 then some (.phasor .b)
  else if b = 14 then some (.phasor .c) else none

/-- The owner set in bits 0 to 2 of the owner-and-stage byte. -/
def ownersOf (b : Byte) : StationSet := ⟨b.getLsbD 0, b.getLsbD 1, b.getLsbD 2⟩

/-- The stage in bits 4 and 5 of the owner-and-stage byte. -/
def stageOf (b : Byte) : Fin 4 := Fin.ofNat 4 (b.toNat / 16)

/-- R2: a used contactor placed at phasor s has s in its owner set. -/
def MapEntry.phasorOwned (e : MapEntry) : Bool :=
  match e.placement with
  | .tower _ => true
  | .phasor st => e.owners.isEmpty || e.owners.has st

/-- R2, R168: the map entry three bytes carry, if it is well formed: the placement in its range,
bits 3, 6 and 7 of the owner-and-stage byte clear, the travel-limit byte in 2 to 200 (20 to
2000 ms), and the phasor owned. -/
def mapEntry? (e : RawMapEntry) : Option MapEntry :=
  match placementOf? e.placement with
  | none => none
  | some pl =>
    if e.ownerStage.getLsbD 3 || e.ownerStage.getLsbD 6 || e.ownerStage.getLsbD 7 then none
    else if e.travelLimit.toNat < 2 || 200 < e.travelLimit.toNat then none
    else
      let m : MapEntry :=
        { placement := pl, owners := ownersOf e.ownerStage, stage := stageOf e.ownerStage,
          travelLimit := 10 * e.travelLimit.toNat }
      if m.phasorOwned then some m else none

/-- The well-formed entries of LOAD MAP, or the place of the first that fails. -/
def mapEntriesFrom : Nat → List RawMapEntry → Except Nat (List MapEntry)
  | _, [] => .ok []
  | i, e :: rest =>
    match mapEntry? e with
    | none => .error i
    | some m =>
      match mapEntriesFrom (i + 1) rest with
      | .error j => .error j
      | .ok ms => .ok (m :: ms)

/-! ## Pattern headers (R22, R23) -/

/-- `x` lies in `lo` to `hi`. -/
def within (lo hi x : Nat) : Bool := decide (lo ≤ x) && decide (x ≤ hi)

/-- R22: the header LOAD PATTERN carries is well formed. -/
def headerOk (n : Byte) (towers : List RawTower) (h : RawHeader) : Bool :=
  within 1 12 n.toNat
  && towers.all (fun t => within 0 11 t.tower.toNat)
  && decide ((towers.map RawTower.tower).Nodup)
  && towers.any (fun t => t.tower == h.reference)
  && towers.all (fun t => within 1 4000 t.ratio.toNat
      && (t.tower != h.reference || t.ratio.toNat == 1000))
  && towers.all (fun t => within 0 3599 t.phase.toNat
      && (t.tower != h.reference || t.phase.toNat == 0))
  && within 1 1000 h.licensedPower.toNat
  && within 1 500 h.ratioCaution.toNat && within 1 500 h.ratioOut.toNat
  && decide (h.ratioCaution.toNat ≤ h.ratioOut.toNat)
  && within 1 900 h.phaseCaution.toNat && within 1 900 h.phaseOut.toNat
  && decide (h.phaseCaution.toNat ≤ h.phaseOut.toNat)
  && within 0 1000 h.cautionCap.toNat && within 0 1000 h.outCap.toNat
  && decide (h.outCap.toNat ≤ h.cautionCap.toNat)
  && within 100 1000 h.proofLevel.toNat
  && within 0 10000 h.settle.toNat
  && within 1 8 h.proofCount.toNat
  && within 1 120 h.proofTimeout.toNat

/-- R23: the towers in ascending order, each with its own licensed ratio and phase. -/
def sortedTowers (towers : List RawTower) : List TowerLicence :=
  (List.range 12).filterMap (fun t =>
    (towers.find? (fun r => r.tower.toNat == t)).map (fun r =>
      { tower := t, ratio := r.ratio.toNat, phase := r.phase.toNat }))

/-- R24: the pattern a header makes over a position map. -/
def patternOf (towers : List RawTower) (h : RawHeader) (positions : List (Option Pos)) : Pattern :=
  { towers := sortedTowers towers
    reference := h.reference.toNat
    licensedPower := h.licensedPower.toNat
    ratioCaution := h.ratioCaution.toNat
    ratioOut := h.ratioOut.toNat
    phaseCaution := h.phaseCaution.toNat
    phaseOut := h.phaseOut.toNat
    cautionCap := h.cautionCap.toNat
    outCap := h.outCap.toNat
    proofLevel := h.proofLevel.toNat
    settle := h.settle.toNat
    proofCount := h.proofCount.toNat
    proofTimeout := h.proofTimeout.toNat
    positions := positions }

/-- A position map that is all FREE (R24). -/
def freeMap : List (Option Pos) := List.replicate Config.contactors none

/-! ## Bank enables (R1, R26, R47) -/

/-- The contactors of the enabled banks, in ascending bank order and contactor order. -/
def enabledContactors (enable : Half) : List Nat :=
  (banksOf enable).flatMap (fun b => (List.range 8).map (fun i => 8 * b + i))

/-- The contactors of the enabled banks, each with its entry byte. -/
def bankEntries (enable : Half) (positions : List Byte) : List (Nat × Byte) :=
  (enabledContactors enable).zip positions

end Sys2Proof.Machine
end

