-- ==== Sys2Proof/Machine/Conformance.lean ====
section
/-! DEFINITION. The Conformance Unit (Chapter 7): the decoding of a sample set (R167), its validity
(R114), the ratio, the deviations and the raw class of a tower (R115 to R118), persistence (R121),
and the forming, emptying and seeding of a station's list (R98, R103, R111). -/

namespace Sys2Proof.Machine

/-! ## Sample sets -/

/-- A tower entry of a sample set, as received (R112). -/
structure Sample where
  tower : Nat
  amplitude : Nat
  phase : Nat
deriving DecidableEq, Repr

/-- Tower entries of five bytes each. -/
def samples? : List Byte → Option (List Sample)
  | [] => some []
  | t :: a1 :: a0 :: p1 :: p0 :: rest =>
    (samples? rest).map (fun ss =>
      { tower := t.toNat, amplitude := (half a1 a0).toNat, phase := (half p1 p0).toNat } :: ss)
  | _ => none

/-- R167: the station and the entries of a body that decodes as a sample set: kind 60h, a station
0 to 2, n in 1 to 12, length 4 + 5n. The tag is ignored. -/
def sampleSet? : List Byte → Option (Station × List Sample)
  | kind :: _tag :: st :: n :: rest =>
    if kind = 0x60 ∧ 1 ≤ n.toNat ∧ n.toNat ≤ 12 then
      match stationOf? st, samples? rest with
      | some q, some ss => if ss.length = n.toNat then some (q, ss) else none
      | _, _ => none
    else none
  | _ => none

/-- The amplitude and the phase a set gives for a tower. -/
def sampleOf (ss : List Sample) (t : Nat) : Option Sample := ss.find? (fun x => x.tower == t)

/-- R114: the validity test against a pattern. -/
def sampleSetValid (p : Pattern) (ss : List Sample) : Bool :=
  ss.map Sample.tower == p.towers.map TowerLicence.tower
  && (match sampleOf ss p.reference with
      | some r => decide (0 < r.amplitude) && r.phase == 0
      | none => false)
  && ss.all (fun x => decide (x.phase ≤ 3599))

/-! ## Ratio, deviation and class -/

/-- R115: the stored amplitude ratio and the ratio saturated flag. -/
def ratioOf (amplitude reference : Nat) : Nat × Bool :=
  let q := amplitude * 1000 / reference
  if 4000 < q then (4000, true) else (q, false)

/-- R116: the stored ratio deviation: truncated toward zero, at most 9999. -/
def ratioDeviation (ratio licensed : Nat) : Int :=
  let d := (((ratio : Int) - licensed) * 1000).tdiv licensed
  if 9999 < d then 9999 else d

/-- R117: the stored phase deviation, in −1799 to +1800. -/
def phaseDeviation (phase licensed : Nat) : Int :=
  let d := (phase : Int) - licensed
  if 1800 < d then d - 3600 else if d ≤ -1800 then d + 3600 else d

/-- R118: the raw class of a tower. -/
def rawClass (p : Pattern) (dr dp : Int) : Grade :=
  if p.ratioOut < dr.natAbs ∨ p.phaseOut < dp.natAbs then .out
  else if p.ratioCaution < dr.natAbs ∨ p.phaseCaution < dp.natAbs then .caution
  else .inBand

/-- What a valid set writes in a tower's record (R115 to R118). -/
def TowerRecord.measure (p : Pattern) (reference : Nat) (l : TowerLicence) (x : Sample)
    (t : TowerRecord) : TowerRecord :=
  let q := ratioOf x.amplitude reference
  let dr := ratioDeviation q.1 l.ratio
  let dp := phaseDeviation x.phase l.phase
  { t with
    ratio := q.1
    saturated := q.2
    ratioDev := dr
    phaseDev := dp
    raw := rawClass p dr dp }

/-- The record of one tower, measured against its licence and its entry of the set. -/
def measureTower (p : Pattern) (ss : List Sample) (t : TowerRecord) : TowerRecord :=
  match p.towers.find? (fun l => l.tower == t.tower), sampleOf ss t.tower,
      sampleOf ss p.reference with
  | some l, some x, some r => t.measure p r.amplitude l x
  | _, _, _ => t

/-- R121: persistence, with the station's escalate count E and de-escalate count D. -/
def TowerRecord.persist (e d : Nat) (t : TowerRecord) : TowerRecord :=
  if t.raw.worse t.current then
    if t.escalate + 1 = e then { t with current := t.raw, escalate := 0, deescalate := 0 }
    else { t with escalate := t.escalate + 1, deescalate := 0 }
  else if t.current.worse t.raw then
    if t.deescalate + 1 = d then { t with current := t.raw, escalate := 0, deescalate := 0 }
    else { t with escalate := 0, deescalate := t.deescalate + 1 }
  else { t with escalate := 0, deescalate := 0 }

/-! ## Forming, emptying and seeding -/

/-- The record of a tower at formation (R98). -/
def TowerRecord.formed (tower : Nat) : TowerRecord :=
  { tower, ratio := 0, saturated := false, ratioDev := 0, phaseDev := 0, raw := .inBand,
    current := .inBand, escalate := 0, deescalate := 0 }

/-- R98: the list for a slot's tower list, with the monitor timer stopped and the flag clear. -/
def State.formTowers (st : Station) (slot : Fin 4) (s : State) : State :=
  s.modConf st (fun _ =>
    { towers := (match s.slot st slot with
        | none => []
        | some p => p.towers.map (fun l => TowerRecord.formed l.tower))
      monitorExpiry := none
      lost := false })

/-- R111: the list is emptied, the monitor timer stopped and the flag cleared. -/
def State.emptyTowers (st : Station) (s : State) : State := s.modConf st (fun _ => Conformance.empty)

/-- R123: the monitor timer starts or restarts at the station's monitor timeout. -/
def State.startMonitor (st : Station) (s : State) : State :=
  s.modConf st (fun c =>
    { c with monitorExpiry := some (s.time + 1000 * (s.station st).monitorTimeout) })

/-- R123: the monitor timer stops. -/
def State.stopMonitor (st : Station) (s : State) : State :=
  s.modConf st (fun c => { c with monitorExpiry := none })

/-- R103: seeding of every tower by `g`, then CLASS CHANGED when the station class is not IN, then
the monitor timer (R101, R102). -/
def State.seedTowers (st : Station) (g : TowerRecord → Grade) (s : State) : State :=
  let s := s.modConf st (fun c => { c with
    towers := c.towers.map (fun t => { t with current := g t, escalate := 0, deescalate := 0 })
    lost := false })
  let cls := (s.conf st).stationClass
  (if cls = .inBand then s else s.notify st (.classChanged cls)).startMonitor st

end Sys2Proof.Machine
end

