-- ==== Sys2Proof/Machine/Contactors.lean ====
section
/-! DEFINITION. The Contactor Table, the Sense Scanner and the Coil Drive (Chapter 1): exposure
(R12), the change of a contactor's state and what it makes known (R20), drive starts (R14), sense
events (R9 to R11), travel-limit expiry (R15) and derivation (R18). -/

namespace Sys2Proof.Machine

/-! ## Exposure (R12) -/

/-- Whether the pattern of a station's slot lists a tower. -/
def State.listsTower (s : State) (st : Station) (n : Fin 4) (t : Nat) : Bool :=
  match s.slot st n with
  | none => false
  | some p => p.towers.any (fun l => l.tower == t)

/-- R12: station `st` is exposed at contactor `k`. -/
def State.exposed (s : State) (st : Station) (k : Nat) : Bool :=
  let r := s.station st
  let c := s.contactor k
  r.present && c.used &&
  (s.driveJob.isSome ||
    match c.map.placement, r.state with
    | .phasor q, _ => q == st
    | .tower t, .steady n => s.listsTower st n t.val
    | .tower t, .proving n => s.listsTower st n t.val
    | .tower _, .none => true
    | .tower _, .mixed => true)

/-- R14: the cold check: every station exposed at `k` has permit output 0 and cold state COLD. -/
def State.coldCheck (s : State) (k : Nat) : Bool :=
  allStations.all (fun st =>
    !s.exposed st k || ((s.permit st).output == 0 && (s.permit st).cold == .cold))

/-! ## Changes of state (R8, R13, R17, R20) -/

/-- The end of a travel: the coil released, the timer stopped, the drive-start time removed. -/
def Contactor.endTravel (c : Contactor) : Contactor :=
  { c with coil := .off, driveStart := none, travelExpiry := none }

/-- R20, R133: the contactor changes, and each present STEADY or PROVING station whose answer to
"all satisfied" changes with it is recomputed. -/
def State.changeContactor (k : Nat) (f : Contactor → Contactor) (s : State) : State :=
  let s' := s.modContactor k f
  s'.recomputeAll (allStations.filter (fun st => s'.currentSatisfied st != s.currentSatisfied st))

/-- R17: a contactor fault. -/
def State.contactorFault (k : Nat) (kind : FaultKind) (s : State) : State :=
  s.raiseFault (.contactor k) kind

/-! ## Reports to the job (R16) -/

/-- The cause a failure report carries (R16). -/
inductive FailCause where
  | stuck | lost | conflict | busy
deriving DecidableEq, Repr

/-- A report to the job that ordered the drive. -/
inductive Report where
  | arrival (k : Nat) | failure (k : Nat) (cause : FailCause)
deriving DecidableEq, Repr

/-! ## Drive starts (R14) -/

/-- The answers to a drive start. -/
inductive DriveAnswer where
  | started | withheld | arrived | failed (cause : FailCause)
deriving DecidableEq, Repr

/-- R14: the contactor begins a travel toward `y`. -/
def Contactor.beginTravel (now : Nat) (y : Pos) (c : Contactor) : Contactor :=
  { c with
    state := .travel y
    coil := .on y
    commanded := y
    driveStart := some now
    travelExpiry := some (now + c.map.travelLimit) }

/-- R14: a travel that the cold check allows or withholds. -/
def State.tryTravel (k : Nat) (y : Pos) (s : State) : DriveAnswer × State :=
  if s.coldCheck k then (.started, s.changeContactor k (Contactor.beginTravel s.time y))
  else (.withheld, s)

/-- R14: a drive start of contactor `k` toward `y`. Before scan ready every start is WITHHELD
(R18); an unused contactor is never driven (R3). -/
def State.driveStart (k : Nat) (y : Pos) (s : State) : DriveAnswer × State :=
  if !s.scanReady || !(s.contactor k).used then (.withheld, s)
  else match (s.contactor k).state with
    | .at x =>
      if x = y then (.arrived, s.modContactor k (fun c => { c with commanded := y }))
      else s.tryTravel k y
    | .stuck => s.tryTravel k y
    | .lost => s.tryTravel k y
    | .conflict => (.failed .conflict, s)
    | .travel _ => (.failed .busy, s)

/-! ## Sense events (R9 to R11) -/

/-- R9, R11: the contactor goes to AT_x. -/
def Contactor.found (x : Pos) (c : Contactor) : Contactor := { c with state := .at x, commanded := x }

/-- A sense event of contactor `k` with the new debounced value `v`, and the report to the job, if
any. An unused contactor discards it (R3). DESIGN CHOICE (log entry 28): a value that the state
already shows (NONE in LOST, BOTH in CONFLICT, x in AT_x) has no row in R9 or R11, and can come after
the free end of log entry 5; it changes nothing here and raises no fault. -/
def State.senseReport (k : Nat) (v : Sense) (s : State) : State × Option Report :=
  if !(s.contactor k).used then (s, none)
  else match (s.contactor k).state, v with
    -- R9
    | .at x, .pos y =>
      if y = x then (s, none)
      else ((s.changeContactor k (Contactor.found y)).contactorFault k .uncommanded, none)
    | .at _, .none =>
      ((s.changeContactor k (fun c => { c with state := .lost })).contactorFault k .lost, none)
    | .at _, .both =>
      ((s.changeContactor k (fun c => { c with state := .conflict })).contactorFault k .conflict,
        none)
    -- R10
    | .travel y, .pos x =>
      if x = y then
        (s.changeContactor k (fun c => { c.endTravel with state := .at y }), some (.arrival k))
      else (s, none)
    | .travel _, .none => (s, none)
    | .travel _, .both =>
      ((s.changeContactor k (fun c => { c.endTravel with state := .conflict })).contactorFault k
        .conflict, some (.failure k .conflict))
    -- R11
    | .stuck, .pos x => (s.changeContactor k (Contactor.found x), none)
    | .lost, .pos x => (s.changeContactor k (Contactor.found x), none)
    | .conflict, .pos x => (s.changeContactor k (Contactor.found x), none)
    | .stuck, .none =>
      ((s.changeContactor k (fun c => { c with state := .lost })).contactorFault k .lost, none)
    | .conflict, .none =>
      ((s.changeContactor k (fun c => { c with state := .lost })).contactorFault k .lost, none)
    -- no row of R11: log entry 28
    | .lost, .none => (s, none)
    | .stuck, .both =>
      ((s.changeContactor k (fun c => { c with state := .conflict })).contactorFault k .conflict,
        none)
    | .lost, .both =>
      ((s.changeContactor k (fun c => { c with state := .conflict })).contactorFault k .conflict,
        none)
    -- no row of R11: log entry 28
    | .conflict, .both => (s, none)

/-! ## Travel-limit expiry (R15) -/

/-- The end of a travel whose limit has expired: STUCK or LOST with its fault and its failure
report. -/
def State.travelFails (k : Nat) (state : CState) (kind : FaultKind) (cause : FailCause) (s : State) :
    State × Option Report :=
  ((s.changeContactor k (fun c => { c.endTravel with state := state })).contactorFault k kind,
    some (.failure k cause))

/-- R15 where it gives no end: the travel fails, and the state it leaves is a free value (log entry
5). -/
def State.travelFailsFree (k : Nat) (y : Pos) (s : State) : State × Option Report :=
  let draw := Config.freeTravelEnd s.freeDraw
  let s := { s with freeDraw := s.freeDraw + 1 }
  if draw = 0 then
    (s.changeContactor k (fun c => { c.endTravel with state := .at y }), some (.failure k .stuck))
  else if draw = 1 then s.travelFails k .stuck .stuck .stuck
  else if draw = 2 then s.travelFails k .lost .lost .lost
  else s.travelFails k .conflict .conflict .conflict

/-- R15: the expiry of the travel-limit timer of contactor `k`. -/
def State.travelExpires (k : Nat) (s : State) : State × Option Report :=
  match (s.contactor k).state with
  | .travel y =>
    match (s.contactor k).debounced with
    | some (.pos x) =>
      if x = y then s.travelFailsFree k y else s.travelFails k .stuck .stuck .stuck
    | some .none => s.travelFails k .lost .lost .lost
    | some .both => s.travelFailsFree k y
    | none => s.travelFailsFree k y
  | _ => (s, none)

/-! ## Derivation (R18) -/

/-- The state Table 1.4 gives a debounced value. -/
def derivedState : Sense → CState
  | .pos x => .at x
  | .none => .lost
  | .both => .conflict

/-- The commanded position Table 1.4 gives a debounced value. -/
def derivedCommanded : Sense → Pos
  | .pos x => x
  | .none => .a
  | .both => .a

/-- Table 1.4: the dynamic half derived from a debounced sense value. -/
def Contactor.derive (v : Sense) (c : Contactor) : Contactor :=
  { c.endTravel with state := derivedState v, commanded := derivedCommanded v }

/-- R18: the derivation of contactor `k`, with its fault if the contactor is used. -/
def State.derive (k : Nat) (s : State) : State :=
  let v := (s.contactor k).debounced.getD .none
  let s' := s.changeContactor k (Contactor.derive v)
  if (s'.contactor k).used then
    match v with
    | .pos _ => s'
    | .none => s'.contactorFault k .lost
    | .both => s'.contactorFault k .conflict
  else s'

/-- R18, R143: the derivation of every entry, in ascending contactor order. -/
def State.deriveAll (s : State) : State :=
  (List.range Config.contactors).foldl (fun s k => s.derive k) s

/-- R7, R18: scan ready, once every contactor has a first debounced value: every entry is
derived. -/
def State.checkScanReady (s : State) : State :=
  if !s.scanReady && s.contactors.all (fun c => c.debounced.isSome) then
    { s with scanReady := true, firstValueExpiry := none }.deriveAll
  else s

/-! ## The Sense Scanner (R6, R7) -/

/-- R6, R7: the raw value of a contactor changes: the debounce timer starts, restarts or stops. -/
def Contactor.rawChange (now : Nat) (v : Sense) (c : Contactor) : Contactor :=
  if c.raw = v then c
  else { c with
    raw := v
    debounceExpiry := if c.debounced = some v then none else some (now + Config.debounceMs) }

/-- R6: the debounced value becomes the raw value. -/
def Contactor.settleRaw (c : Contactor) : Contactor :=
  { c with debounced := some c.raw, debounceExpiry := none }

/-- R7: at the deadline a contactor without a first value takes NONE, and is debounced against it
from then on. -/
def Contactor.takeDeadline (now : Nat) (c : Contactor) : Contactor :=
  match c.debounced with
  | some _ => c
  | none => { c with
      debounced := some .none
      debounceExpiry := if c.raw = .none then none else some (now + Config.debounceMs) }

end Sys2Proof.Machine
end

