-- ==== Sys2Proof/Machine/Engine.lean ====
section
/-! DEFINITION. The Transition Engine (Chapters 5 and 6) and the drive job (section 3.5): the mute
(R78), MUTING, MOVING, SETTLING, PROVING and ABORTING, and the job of DRIVE. These operations never
run the arbiter: the event that frees the engine runs it as its last act (R68, Machine/Arbiter.lean). -/

namespace Sys2Proof.Machine

/-! ## The mute (R78) -/

/-- COLLATERAL notices to the collateral set, in the order A, B, C. -/
def State.notifyCollateral (id : Nat) (collateral : StationSet) (released : Bool) (s : State) :
    State :=
  collateral.members.foldl (fun s st => s.notify st (.collateral id released)) s

/-- R78, R123: the mute is placed: each station of the mute set is recomputed under its MUTE cap, and
the monitor timer of a STEADY one stops. -/
def State.placeMute (muteSet : StationSet) (s : State) : State :=
  muteSet.members.foldl (fun s st =>
      let s := s.recompute st
      if (s.station st).state.isSteady then s.stopMonitor st else s)
    (s.modFlight (fun f => { f with mutePlaced := true }))

/-- R78: the mute is released: targets, then monitor timers, then COLLATERAL "released". -/
def State.releaseMute (s : State) : State :=
  match s.flying with
  | none => s
  | some (r, f) =>
    let s := (s.modFlight (fun f => { f with mutePlaced := false })).recomputeAll f.muteSet.members
    let s := f.muteSet.members.foldl (fun s st =>
      if (s.station st).state.isSteady then s.startMonitor st else s) s
    s.notifyCollateral r.id f.collateral true

/-! ## PROVING (R76, R96, R101, R102) -/

/-- R96, R76: the proof timer starts at the target slot's proof timeout, and the proof run stands
at 0. -/
def State.startProof (st : Station) (slot : Fin 4) (s : State) : State :=
  let timeout := match s.slot st slot with
    | some p => 1000 * p.proofTimeout
    | none => 0
  s.modFlight (fun f => { f with proofRun := 0, proofExpiry := some (s.time + timeout) })

/-- R76: a granted record with an empty move set. -/
def State.enterProvingAtOnce (s : State) : State :=
  match s.flying with
  | none => s
  | some (r, _) =>
    let s := (s.setStage .proving).setStation r.station (.proving r.target)
    let s := (s.formTowers r.station r.target).recompute r.station
    s.startProof r.station r.target

/-- R96: the settle timer expires. -/
def State.settleExpires (s : State) : State :=
  match s.flying with
  | none => s
  | some (r, _) =>
    let s := s.setStation r.station (.proving r.target)
    let s := s.formTowers r.station r.target
    let s := (s.modFlight (fun f => { f with settleExpiry := none })).setStage .proving
    s.releaseMute.startProof r.station r.target

/-- R101: the proof run has reached the proof count. -/
def State.proofDone (s : State) : State :=
  match s.flying with
  | none => s
  | some (r, _) =>
    let s := s.modFlight (fun f => { f with proofExpiry := none })
    let s := s.setStation r.station (.steady r.target)
    let s := (s.seedTowers r.station TowerRecord.raw).recompute r.station
    s.endRecord r.id .done

/-- R102: the proof timer has expired. -/
def State.proofFails (s : State) : State :=
  match s.flying with
  | none => s
  | some (r, _) =>
    let s := s.modFlight (fun f => { f with proofExpiry := none })
    let s := s.setStation r.station (.steady r.target)
    let s := (s.seedTowers r.station (fun _ => Grade.out)).recompute r.station
    s.endRecord r.id .failedProof

/-- R99: the verdict of a valid set for a station in PROVING. -/
def State.takeVerdict (st : Station) (passing : Bool) (s : State) : State :=
  match s.flying with
  | none => s
  | some (r, f) =>
    if r.station = st ∧ r.stage = .proving then
      let run := if passing then f.proofRun + 1 else 0
      let s := s.modFlight (fun f => { f with proofRun := run })
      match s.slot st r.target with
      | none => s
      | some p => if passing && run == p.proofCount then s.proofDone else s
    else s

/-! ## SETTLING (R95) -/

/-- R95: the record enters SETTLING; a settle time of 0 expires at the entry. -/
def State.enterSettling (s : State) : State :=
  match s.flying with
  | none => s
  | some (r, _) =>
    let settle := match s.slot r.station r.target with
      | some p => p.settle
      | none => 0
    let s := (s.modFlight (fun f =>
      { f.stopTimers s.time with settleExpiry := some (s.time + settle) })).setStage .settling
    if settle = 0 then s.settleExpires else s

/-! ## ABORTING (R91 to R93) -/

/-- R93: a record in ABORTING ends. A requester that is MIXED already stays so without a notice (log
entry 24). -/
def State.endAborting (s : State) : State :=
  match s.flying with
  | none => s
  | some (r, f) =>
    let s := if f.arrivals = 0 then s
      else (s.setStation r.station .mixed).emptyTowers r.station
    s.releaseMute.endRecord r.id (f.abortResult.getD .failedContactor)

/-- R91: a record goes to ABORTING. -/
def State.enterAborting (result : TResult) (s : State) : State :=
  match s.flying with
  | none => s
  | some (_, f) =>
    let s := (s.modFlight (fun f => { f.stopTimers s.time with abortResult := some result })).setStage
      .aborting
    if f.strokes.isEmpty then s.endAborting else s

/-! ## MOVING (R83 to R89) -/

/-- R88: starts are withheld while HOLD is asserted or a mute-set station is not COLD. -/
def State.startsWithheld (s : State) (muteSet : StationSet) : Bool :=
  s.hold || muteSet.members.any (fun st => (s.permit st).cold != .cold)

/-- R85, R49: the current stage of a job is the lowest that has a contactor waiting or travelling;
the next to start is the first waiting contactor of it. -/
def State.nextStart (s : State) (strokes : List Nat) (waiting : List Move) : Option Move :=
  waiting.find? (fun m =>
    let stage := (s.contactor m.contactor).map.stage
    strokes.all (fun k => decide (stage ≤ (s.contactor k).map.stage))
    && waiting.all (fun n => decide (stage ≤ (s.contactor n.contactor).map.stage)))

/-- A move leaves a list of moves. -/
def dropMove (k : Nat) (ms : List Move) : List Move := ms.filter (fun m => m.contactor != k)

/-- R84: drive starts for the waiting contactors of the current stage. Each turn of `fuel` orders one
start; a start takes a contactor off the waiting list, or ends the occasion. -/
def State.orderStarts : Nat → State → State
  | 0, s => s
  | fuel + 1, s =>
    match s.flying with
    | none => s
    | some (r, f) =>
      if r.stage = .moving ∧ s.startsWithheld f.muteSet = false
          ∧ f.strokes.length < s.site.strokeWidth then
        match s.nextStart f.strokes f.waiting with
        | none => s
        | some m =>
          match s.driveStart m.contactor m.target with
          | (.started, s) =>
            (s.modFlight (fun f => { f with
              waiting := dropMove m.contactor f.waiting
              strokes := f.strokes ++ [m.contactor] })).orderStarts fuel
          | (.withheld, s) => s
          | (.arrived, s) =>
            let s := s.modFlight (fun f => { f with
              waiting := dropMove m.contactor f.waiting
              arrivals := f.arrivals + 1 })
            if f.arrivals + 1 = f.moves.length then s.enterSettling else s.orderStarts fuel
          | (.failed _, s) =>
            (s.modFlight (fun f => { f with
              waiting := dropMove m.contactor f.waiting
              failures := f.failures + 1 })).enterAborting .failedContactor
      else s

/-- The occasion to order starts: enough turns for every contactor of the part. -/
def State.startMoves (s : State) : State := s.orderStarts (Config.contactors + 1)

/-- R79, R83: the cold condition holds, and the record enters MOVING. -/
def State.enterMoving (s : State) : State :=
  ((s.modFlight (fun f => { f with
    muteExpiry := none, hotStart := none, strokes := [], waiting := f.moves, arrivals := 0,
    failures := 0 })).setStage .moving).startMoves

/-- R79: every station of the mute set is COLD. -/
def State.coldCondition (s : State) (muteSet : StationSet) : Bool :=
  muteSet.members.all (fun st => (s.permit st).cold == .cold)

/-- R79: the cold condition is examined for a record in MUTING. -/
def State.examineCold (s : State) : State :=
  match s.flying with
  | none => s
  | some (r, f) => if r.stage = .muting ∧ s.coldCondition f.muteSet then s.enterMoving else s

/-- R77: the record enters MUTING. -/
def State.enterMuting (s : State) : State :=
  match s.flying with
  | none => s
  | some (r, f) =>
    let s := (s.setStage .muting).placeMute f.muteSet
    let s := s.notifyCollateral r.id f.collateral false
    let s := s.modFlight (fun f => { f with
      muteExpiry := some (s.time + 1000 * s.site.muteTimeout)
      holdStart := if s.hold then some s.time else none })
    s.examineCold

/-- R82: a record in MUTING ends. -/
def State.endMuting (result : TResult) (s : State) : State :=
  match s.flying with
  | none => s
  | some (r, _) =>
    let s := s.modFlight (fun f => { f with muteExpiry := none, holdStart := none })
    s.releaseMute.endRecord r.id result

/-! ## The drive job (R49 to R51) -/

/-- R50: the job withholds starts while HOLD is asserted or a present station is not COLD. -/
def State.driveWithheld (s : State) : Bool :=
  s.hold || allStations.any (fun st => (s.station st).present && (s.permit st).cold != .cold)

/-- R49: drive starts of the job, one for each turn of `fuel`. -/
def State.orderDrive : Nat → State → State
  | 0, s => s
  | fuel + 1, s =>
    match s.driveJob with
    | none => s
    | some j =>
      if j.closed = none ∧ s.driveWithheld = false ∧ j.strokes.length < s.site.strokeWidth then
        match s.nextStart j.strokes j.waiting with
        | none => s
        | some m =>
          match s.driveStart m.contactor m.target with
          | (.started, s) =>
            (s.modDriveJob (fun j => { j with
              waiting := dropMove m.contactor j.waiting
              strokes := j.strokes ++ [m.contactor] })).orderDrive fuel
          | (.withheld, s) => s
          | (.arrived, s) =>
            (s.modDriveJob (fun j => { j with
              waiting := dropMove m.contactor j.waiting
              arrived := j.arrived + 1 })).orderDrive fuel
          | (.failed _, s) =>
            (s.modDriveJob (fun j => { j with
              waiting := dropMove m.contactor j.waiting
              failed := j.failed + 1 })).orderDrive fuel
      else s

/-- R51: the job ends when nothing travels and nothing waits, or when its starts are closed and
nothing travels; contactors still waiting are counted not driven (R50). -/
def State.endDriveIfDone (s : State) : State :=
  match s.driveJob with
  | none => s
  | some j =>
    if j.strokes.isEmpty && (j.waiting.isEmpty || j.closed.isSome) then
      ({ s with engine := .free }).notify j.port
        (.driveEnded j.arrived j.failed (j.notDriven + j.waiting.length) j.closed)
    else s

/-- The job orders the starts it may, and ends if it is done. -/
def State.stepDrive (s : State) : State := (s.orderDrive (Config.contactors + 1)).endDriveIfDone

/-! ## Reports, cold states and HOLD reach the job (R86, R87, R92, R130, R81, R50) -/

/-- R86, R92, R49: an arrival report. -/
def State.reportArrival (k : Nat) (s : State) : State :=
  match s.engine with
  | .free => s
  | .transition _ =>
    match s.flying with
    | none => s
    | some (r, f) =>
      if f.strokes.contains k then
        let s := s.modFlight (fun f => { f with
          strokes := f.strokes.filter (fun i => i != k)
          arrivals := f.arrivals + 1 })
        match r.stage with
        | .moving => if f.arrivals + 1 = f.moves.length then s.enterSettling else s.startMoves
        | .aborting => if (f.strokes.filter (fun i => i != k)).isEmpty then s.endAborting else s
        | _ => s
      else s
  | .drive j =>
    if j.strokes.contains k then
      (s.modDriveJob (fun j => { j with
        strokes := j.strokes.filter (fun i => i != k)
        arrived := j.arrived + 1 })).stepDrive
    else s

/-- R87, R92, R49: a failure report; its cause does not change the result. -/
def State.reportFailure (k : Nat) (s : State) : State :=
  match s.engine with
  | .free => s
  | .transition _ =>
    match s.flying with
    | none => s
    | some (r, f) =>
      if f.strokes.contains k then
        let s := s.modFlight (fun f => { f with
          strokes := f.strokes.filter (fun i => i != k)
          failures := f.failures + 1 })
        match r.stage with
        | .moving => s.enterAborting .failedContactor
        | .aborting => if (f.strokes.filter (fun i => i != k)).isEmpty then s.endAborting else s
        | _ => s
      else s
  | .drive j =>
    if j.strokes.contains k then
      (s.modDriveJob (fun j => { j with
        strokes := j.strokes.filter (fun i => i != k)
        failed := j.failed + 1 })).stepDrive
    else s

/-- R16: a report reaches the job that ordered the drive, or is dropped. -/
def State.report (r : Option Report) (s : State) : State :=
  match r with
  | none => s
  | some (.arrival k) => s.reportArrival k
  | some (.failure k _) => s.reportFailure k

/-- R88, R50: a hot-pause timer after a change of cold state. -/
def hotPause (now : Nat) (allCold : Bool) (start : Option Nat) : Option Nat :=
  if allCold then none else some (start.getD now)

/-- R130: a change of a station's cold state is made known to the job in the engine. -/
def State.coldChanged (st : Station) (s : State) : State :=
  match s.engine with
  | .free => s
  | .transition _ =>
    match s.flying with
    | none => s
    | some (r, f) =>
      if f.muteSet.has st then
        match r.stage with
        | .muting => s.examineCold
        | .moving =>
          (s.modFlight (fun f => { f with
            hotStart := hotPause s.time (s.coldCondition f.muteSet) f.hotStart })).startMoves
        | _ => s
      else s
  | .drive _ =>
    let allCold := allStations.all (fun q => !(s.station q).present || (s.permit q).cold == .cold)
    (s.modDriveJob (fun j => { j with hotStart := hotPause s.time allCold j.hotStart })).stepDrive

/-- R81, R50: HOLD asserts: the hold timer of a record in MUTING or MOVING, or of a drive job, starts
at 0. -/
def State.holdStarts (s : State) : State :=
  match s.engine with
  | .free => s
  | .transition _ =>
    match s.flying with
    | none => s
    | some (r, _) =>
      if r.stage = .muting ∨ r.stage = .moving then
        s.modFlight (fun f => { f with holdStart := some s.time })
      else s
  | .drive _ => s.modDriveJob (fun j => { j with holdStart := some s.time })

/-- R81, R84, R50: HOLD releases: the hold timer returns to 0 and starts resume. -/
def State.holdStops (s : State) : State :=
  match s.engine with
  | .free => s
  | .transition _ =>
    match s.flying with
    | none => s
    | some (r, _) =>
      if r.stage = .muting ∨ r.stage = .moving then
        (s.modFlight (fun f => { f with holdStart := none, holdTime := 0 })).startMoves
      else s
  | .drive _ => (s.modDriveJob (fun j => { j with holdStart := none })).stepDrive

/-! ## Cold states (R128 to R130) -/

/-- R128, R130: the cold state of a station becomes `c`, its dwell timer `dwell`; a change is made
known to the job. -/
def State.setCold (st : Station) (c : Cold) (dwell : Option Nat) (s : State) : State :=
  let s' := s.modPermit st (fun p => { p with cold := c, dwellExpiry := dwell })
  if (s.permit st).cold = c then s' else s'.coldChanged st

/-- R128: a cold reading in UNKNOWN or HOT. -/
def State.coldReading (st : Station) (s : State) : State :=
  if (s.station st).coldDwell = 0 then s.setCold st .cold none
  else s.setCold st .cooling (some (s.time + (s.station st).coldDwell))

/-- Table 8.1: a power report of forward power `power` applied to the cold state. -/
def State.applyReading (st : Station) (power : Nat) (s : State) : State :=
  if (s.station st).coldThreshold < power then s.setCold st .hot none
  else match (s.permit st).cold with
    | .unknown => s.coldReading st
    | .hot => s.coldReading st
    | .cooling => s
    | .cold => s

end Sys2Proof.Machine
end

