-- ==== Sys2Proof/Machine/Arbiter.lean ====
section
/-! DEFINITION. The arbiter of the Transition Queue (section 4.7): the examination of a record
(R69 to R71), the grant (R72) and the run (R68); the choice of an id (R56); and recognition
(R54). -/

namespace Sys2Proof.Machine

/-! ## Ids (R56) -/

/-- The id after `n`: 1 to 255, then 1 again. -/
def nextIdAfter (n : Nat) : Nat := if n < 255 then n + 1 else 1

/-- R56: the first value from the counter that no record holds, and the counter behind it. Each turn
of `fuel` passes over one value. -/
def chooseId (taken : List Nat) : Nat → Nat → Nat × Nat
  | 0, c => (c, nextIdAfter c)
  | fuel + 1, c => if taken.contains c then chooseId taken fuel (nextIdAfter c) else (c, nextIdAfter c)

/-! ## The examination of a record -/

/-- R69: contactor `k` has a target in the combination, is used and is not AT it. -/
def State.needsMove (s : State) (c : Combination) (k : Nat) : Option Move :=
  match combined c k with
  | none => none
  | some x =>
    if (s.contactor k).used && (s.contactor k).state != .at x then some ⟨k, x⟩ else none

/-- A list of moves ordered by contactor stage, and within one stage as it stands. -/
def State.byStage (s : State) (ms : List Move) : List Move :=
  ([0, 1, 2, 3] : List (Fin 4)).flatMap (fun g =>
    ms.filter (fun m => (s.contactor m.contactor).map.stage == g))

/-- R69: the move set of a combination, by stage and contactor number. -/
def State.moveSet (s : State) (c : Combination) : List Move :=
  s.byStage ((List.range Config.contactors).filterMap (s.needsMove c))

/-- R70: the mute set: the record's station and every other present station exposed at a contactor of
the move set. -/
def State.muteSetOf (s : State) (st : Station) (moves : List Move) : StationSet :=
  StationSet.of (fun q =>
    q == st || ((s.station q).present && moves.any (fun m => s.exposed q m.contactor)))

/-- R70: the collateral set: the other STEADY stations of the mute set. -/
def State.collateralOf (s : State) (st : Station) (muteSet : StationSet) : StationSet :=
  StationSet.of (fun q => muteSet.has q && q != st && (s.station q).state.isSteady)

/-- What an examination decides (R71). -/
inductive Decision where
  | ends (result : TResult) | waits | granted (moves : List Move) (muteSet collateral : StationSet)
deriving DecidableEq, Repr

/-- R71: the decision on a record, by the first case that applies. -/
def State.decision (s : State) (r : TRecord) : Decision :=
  let c := s.combination r.station r.target
  let moves := s.moveSet c
  let muteSet := s.muteSetOf r.station moves
  let collateral := s.collateralOf r.station muteSet
  if !compatible c then .ends .conflict
  else if moves.any (fun m => (s.contactor m.contactor).state == .conflict) then
    .ends .failedContactor
  else if !collateral.isEmpty && !r.allowCollateral then .ends .needsCollateral
  else if collateral.members.any (fun q => (s.station q).consent == .deny) then .waits
  else .granted moves muteSet collateral

/-- What a record holds from its grant on (R72). -/
def Flight.granted (moves : List Move) (muteSet collateral : StationSet) : Flight :=
  { moves, muteSet, collateral, arrivals := 0, failures := 0, holdTime := 0, proofRun := 0,
    mutePlaced := false, strokes := [], waiting := moves, muteExpiry := none, holdStart := none,
    hotStart := none, abortResult := none, settleExpiry := none, proofExpiry := none }

/-- R72: the grant of a record. -/
def State.grant (id : Nat) (moves : List Move) (muteSet collateral : StationSet) (s : State) :
    State :=
  let s := s.modRecord id (fun r => { r with
    flight := some (Flight.granted moves muteSet collateral)
    waitingConsent := false
    waitExpiry := none })
  let s := { s with engine := .transition id }
  if moves.isEmpty then s.enterProvingAtOnce else s.enterMuting

/-- R66, R71: one examination, and whether it granted the record. -/
def State.examine (id : Nat) (s : State) : State × Bool :=
  match s.record? id with
  | none => (s, false)
  | some r =>
    if r.stage = .queued then
      match s.decision r with
      | .ends result =>
        ((s.modRecord id (fun r => { r with waitingConsent := false })).endRecord id result, false)
      | .waits => (s.modRecord id (fun r => { r with waitingConsent := true }), false)
      | .granted moves muteSet collateral => (s.grant id moves muteSet collateral, true)
    else (s, false)

/-- R68: the records of a list, oldest first, until one is granted. -/
def examineFrom : List Nat → State → State × Bool
  | [], s => (s, false)
  | id :: rest, s =>
    match s.examine id with
    | (s, true) => (s, true)
    | (s, false) => examineFrom rest s

/-- The ids of the QUEUED records, oldest first. -/
def State.queuedIds (s : State) : List Nat :=
  (s.queue.filter (fun r => r.stage == .queued)).map TRecord.id

/-- R68: runs of the arbiter: a run that granted a record which has already ended again leaves the
engine free, and the arbiter runs again. -/
def State.arbiterRuns : Nat → State → State
  | 0, s => s
  | fuel + 1, s =>
    if s.mode = .run ∧ s.engine = .free ∧ s.hold = false then
      match examineFrom s.queuedIds s with
      | (s, true) => s.arbiterRuns fuel
      | (s, false) => s
    else s

/-- R68: the arbiter runs. -/
def State.arbiter (s : State) : State := s.arbiterRuns (s.queue.length + 1)

/-- R74, R68: an event, and the arbiter after it if the event has freed the engine. -/
def State.thenArbiter (f : State → State) (s : State) : State :=
  let s' := f s
  if s.engine ≠ .free ∧ s'.engine = .free then s'.arbiter else s'

/-! ## Recognition (R54) -/

/-- R54: the lowest-numbered LOADED slot whose requirements are all satisfied. -/
def State.recognisedSlot (s : State) (st : Station) : Option (Fin 4) :=
  ([0, 1, 2, 3] : List (Fin 4)).find? (fun n => (s.slot st n).isSome && s.allSatisfied st n)

/-- R54, R35, R111: recognition of one present station, with its STATION STATE notice. -/
def State.recognise (st : Station) (s : State) : State :=
  if (s.station st).present then
    match s.recognisedSlot st with
    | some n =>
      let s := s.modStation st (fun r => { r with state := .steady n })
      ((s.formTowers st n).startMonitor st).notify st (.stationState (.steady n))
    | none =>
      let s := s.modStation st (fun r => { r with state := .none })
      (s.emptyTowers st).notify st (.stationState .none)
  else s

/-- R54: recognition of every present station, in the order A, B, C. -/
def State.recogniseAll (s : State) : State := allStations.foldl (fun s st => s.recognise st) s

end Sys2Proof.Machine
end

