-- ==== Sys2Proof/Machine/Format.lean ====
section
/-! DEFINITION. The bytes the part sends (Chapter 11, R166): the field encodings of Table 11.2, the
fields of every reply (Table 11.4) and of every notice (Table 11.5), the permit record (Table 11.6)
and the envelope (Table 11.1). -/

namespace Sys2Proof.Machine

/-! ## Field encodings (Table 11.2) -/

def codeStation : Station → Nat
  | .a => 0
  | .b => 1
  | .c => 2

/-- Table 11.2: 0 for no and for a clear flag. The table reads any other value as yes and names none
that the part sends; the part sends 1 (log entry 26). -/
def codeBool (b : Bool) : Nat := if b then 1 else 0

/-- A set of stations: bits 0 to 2. DESIGN CHOICE (log entry 31): bits 3 to 7 are 0. -/
def codeStations (t : StationSet) : Nat := codeBool t.a + 2 * codeBool t.b + 4 * codeBool t.c

def codePos : Pos → Nat
  | .a => 0
  | .b => 1

/-- A position-map entry: 0 A, 1 B, 2 FREE. -/
def codeEntry : Option Pos → Nat
  | some p => codePos p
  | none => 2

def codeSense : Sense → Nat
  | .pos p => codePos p
  | .none => 2
  | .both => 3

def codeCState : CState → Nat
  | .at p => codePos p
  | .travel p => 2 + codePos p
  | .stuck => 4
  | .lost => 5
  | .conflict => 6

def codePlacement : Placement → Nat
  | .tower t => t.val
  | .phasor st => 12 + codeStation st

def codeStationState : StationState → Nat
  | .none => 0
  | .steady _ => 1
  | .proving _ => 2
  | .mixed => 3

def codeStage : Stage → Nat
  | .queued => 0
  | .muting => 1
  | .moving => 2
  | .settling => 3
  | .proving => 4
  | .aborting => 5

def codeGrade : Grade → Nat
  | .inBand => 0
  | .caution => 1
  | .out => 2

def codeCold : Cold → Nat
  | .unknown => 0
  | .hot => 1
  | .cooling => 2
  | .cold => 3

def codePortState : PortState → Nat
  | .isOpen => 0
  | .isStopped => 1
  | .isLocal => 2

def codeSource : FaultSource → Nat
  | .contactor k => k
  | .station st => 0x80 + codeStation st

def codeKind : FaultKind → Nat
  | .stuck => 0
  | .lost => 1
  | .conflict => 2
  | .uncommanded => 3
  | .linkSilent => 4

/-- Transition results (section 11.4). -/
def codeResult : TResult → Nat
  | .done => 0
  | .cancelled => 1
  | .superseded => 2
  | .expired => 3
  | .conflict => 4
  | .needsCollateral => 5
  | .failedHot => 6
  | .failedContactor => 7
  | .failedHold => 8
  | .failedProof => 9
  | .endedLocal => 10

/-- Result and refusal codes (Table 11.7). -/
def ResultCode.code : ResultCode → Nat
  | .ok => 0x00
  | .accepted => 0x01
  | .noChange => 0x02
  | .wrongMode => 0x10
  | .badValue => 0x11
  | .busy => 0x12
  | .noPattern => 0x13
  | .conflict => 0x14
  | .localPanel => 0x15
  | .stopped => 0x16
  | .notPresent => 0x17
  | .notCold => 0x18
  | .unknownId => 0x19
  | .late => 0x1A
  | .invalid => 0x1B
  | .illegal => 0x1C

/-- A set of clip causes: bits 0 to 7 in the order of `allCauses`. DESIGN CHOICE (log entry 31): bits 8
to 15 are 0. -/
def codeCauses (t : CauseSet) : Nat :=
  (allCauses.zipIdx.map (fun q => if t.has q.1 then 2 ^ q.2 else 0)).sum

/-- The set of clip causes a mask names, if it names none of bits 8 to 15. -/
def causesOf? (m : Half) : Option CauseSet :=
  if m.toNat < 256 then
    some ⟨m.getLsbD 0, m.getLsbD 1, m.getLsbD 2, m.getLsbD 3, m.getLsbD 4, m.getLsbD 5,
      m.getLsbD 6, m.getLsbD 7⟩
  else none

/-- An absent number of one byte and of two bytes. -/
def absent1 : List Byte := [0xFF]
def absent2 : List Byte := [0xFF, 0xFF]

/-- A number that may be absent. -/
def opt1 : Option Nat → List Byte
  | some n => byte1 n
  | none => absent1
def opt2 : Option Nat → List Byte
  | some n => byte2 n
  | none => absent2

/-- A number of two bytes in two's complement. -/
def signed2 (x : Int) : List Byte := Half.bytes (BitVec.ofInt 16 x)

/-- A slot, or FFh for none. -/
def codeSlot (n : Option (Fin 4)) : List Byte := opt1 (n.map Fin.val)

/-- The milliseconds left on a timer. -/
def remaining (now : Nat) (expiry : Option Nat) : Option Nat := expiry.map (fun t => t - now)

/-! ## READ CONTACTORS (R19) -/

/-- The three LOAD MAP bytes of a map entry. -/
def mapBytes (e : MapEntry) : List Byte :=
  byte1 (codePlacement e.placement) ++ byte1 (codeStations e.owners + 16 * e.stage.val)
    ++ byte1 (e.travelLimit / 10)

/-- The bits, of 2, 3, 6 and 7, that take bits 0, 1 and 2 of a state code in the `n`th of the 24 ways
to choose them (log entry 30). -/
def statePlaces (n : Fin 24) : Nat × Nat × Nat :=
  let room := [2, 3, 6, 7]
  let x := room.getD (n.val / 6) 0
  let y := (room.erase x).getD (n.val / 2 % 3) 0
  (x, y, ((room.erase x).erase y).getD (n.val % 2) 0)

/-- A state code of three bits in its places. -/
def placedState (places : Nat × Nat × Nat) (code : Nat) : Nat :=
  code % 2 * 2 ^ places.1 + code / 2 % 2 * 2 ^ places.2.1 + code / 4 % 2 * 2 ^ places.2.2

/-- DESIGN CHOICE (log entry 30): the byte that carries the commanded position in bits 0 and 1, the
sense value in bits 4 and 5, and the state code of Table 11.2 in three of the bits they leave (2, 3, 6
and 7), at a free place. The bit left over is 0 (log entry 31). -/
def contactorByte (c : Contactor) : Byte :=
  BitVec.ofNat 8 (codePos c.commanded + 16 * codeSense (c.debounced.getD .none)
    + placedState (statePlaces Config.freeStatePlace) (codeCState c.state))

/-- The six bytes of a contactor. Table 11.4 says six and lists fields of seven, and R166 and R168 hold
a reply of 40 entries within 250 body bytes: the state has no byte of its own here (log entry 30). -/
def contactorBytes (now : Nat) (c : Contactor) : List Byte :=
  mapBytes c.map ++ [contactorByte c] ++ opt2 (c.driveStart.map (fun t => now - t))

def State.contactorsFields (first count : Nat) (s : State) : List Byte :=
  byte1 first ++ byte1 count
    ++ (List.range count).flatMap (fun i => contactorBytes s.time (s.contactor (first + i)))

/-! ## READ PATTERN (R28) -/

/-- The LOAD PATTERN fields from n onward, the towers ascending. -/
def headerBytes (p : Pattern) : List Byte :=
  byte1 p.towers.length
    ++ p.towers.flatMap (fun l => byte1 l.tower ++ byte2 l.ratio ++ byte2 l.phase)
    ++ byte1 p.reference ++ byte2 p.licensedPower ++ byte2 p.ratioCaution ++ byte2 p.ratioOut
    ++ byte2 p.phaseCaution ++ byte2 p.phaseOut ++ byte2 p.cautionCap ++ byte2 p.outCap
    ++ byte2 p.proofLevel ++ byte2 p.settle ++ byte1 p.proofCount ++ byte1 p.proofTimeout

def State.patternFields (st : Station) (n : Fin 4) (s : State) : List Byte :=
  match s.slot st n with
  | none => byte1 0
  | some p =>
    byte1 1 ++ headerBytes p ++ p.positions.flatMap (fun e => byte1 (codeEntry e))
      ++ byte1 (p.positions.countP Option.isSome) ++ byte1 (unsatisfiedCount s.contactors p.positions)

/-! ## READ TOWERS (R125) -/

/-- The nine bytes of a tower conformance record. DESIGN CHOICE (log entry 31): bits 1, 6 and 7 of the
class byte, to which Table 11.4 gives nothing, are 0. -/
def towerBytes (t : TowerRecord) : List Byte :=
  byte1 t.tower ++ byte2 t.ratio ++ signed2 t.ratioDev ++ signed2 t.phaseDev
    ++ byte1 (codeBool t.saturated + 4 * codeGrade t.raw + 16 * codeGrade t.current)
    ++ byte1 (16 * t.escalate + t.deescalate)

/-- The station class, present while the station is STEADY or PROVING. -/
def State.classOf (s : State) (st : Station) : Option Nat :=
  if (s.station st).state.slot.isSome then some (codeGrade (s.conf st).stationClass) else none

def State.towersFields (st : Station) (s : State) : List Byte :=
  let c := s.conf st
  byte1 (codeStationState (s.station st).state) ++ codeSlot (s.station st).state.slot
    ++ opt1 (s.classOf st) ++ byte1 (codeBool c.lost)
    ++ opt1 ((remaining s.time c.monitorExpiry).map (fun t => t / 1000))
    ++ byte2 (s.monitor.invalidSets.get st) ++ byte1 c.towers.length
    ++ c.towers.flatMap towerBytes

/-! ## READ QUEUE (R73, R109) -/

/-- The fields that depend on the record's stage. -/
def recordTail (now : Nat) (r : TRecord) : List Byte :=
  match r.stage, r.flight with
  | .queued, _ =>
    byte1 (codeBool r.waitingConsent)
      ++ opt2 ((remaining now r.waitExpiry).map (fun t => t / 1000))
  | _, none => []
  | _, some f =>
    byte1 f.moves.length ++ f.moves.flatMap (fun m => byte1 m.contactor)
      ++ byte1 (codeStations f.muteSet) ++ byte1 (codeStations f.collateral)
      ++ byte1 f.arrivals ++ byte1 f.failures ++ byte2 (f.holdSeconds now) ++ byte1 f.proofRun

def recordBytes (now : Nat) (r : TRecord) : List Byte :=
  byte1 r.id ++ byte1 (codeStation r.station) ++ byte1 r.target.val
    ++ byte1 (codeBool r.allowCollateral) ++ byte2 r.waitLimit ++ byte4 r.acceptedAt
    ++ byte1 (codeStage r.stage) ++ recordTail now r

def State.queueFields (s : State) : List Byte :=
  byte1 s.nextId ++ byte1 (codeBool s.hold) ++ byte1 s.queue.length
    ++ s.queue.flatMap (recordBytes s.time)

/-! ## READ FAULTS (R150) -/

def faultBytes (index : Nat) (r : FaultRecord) : List Byte :=
  byte1 index ++ byte1 (codeSource r.source) ++ byte1 (codeKind r.kind) ++ byte4 r.firstSeen
    ++ byte4 r.lastSeen ++ byte1 r.count

def State.faultsFields (s : State) : List Byte :=
  byte4 (seconds s.time) ++ byte1 s.faults.records.length ++ byte1 (codeBool s.faults.overflow)
    ++ byte1 s.faults.dropped ++ s.faults.records.zipIdx.flatMap (fun q => faultBytes q.2 q.1)

/-! ## READ CLIP LOG (R140) -/

/-- The bits 0 to 6 of the caps that apply. DESIGN CHOICE (log entry 31): bit 7 is 0. -/
def codeApplying (c : Caps) : Nat :=
  (allCauses.zipIdx.map (fun q => if (c.cap q.1).applies then 2 ^ q.2 else 0)).sum

/-- The value of a cap as it was formed; where the manual gives the formation none, a free value
(log entry 4). -/
def capBytes (draw : Nat) (c : Cap) : List Byte :=
  byte2 (c.value.getD (Config.freeCapValue draw).val)

/-- The fields of a station; a station that is not present gives no more than that. The draws are
numbered from `s.freeDraw`, one for each of the seven caps. -/
def State.clipLogFields (st : Station) (s : State) : List Byte :=
  if (s.station st).present then
    let p := s.permit st
    byte1 (codeStation st) ++ byte1 (codeBool true) ++ byte1 (codeCold p.cold) ++ opt2 p.lastPower
      ++ opt2 (remaining s.time p.dwellExpiry) ++ byte2 p.target ++ byte2 p.output
      ++ byte1 (codeApplying p.caps)
      ++ capBytes s.freeDraw p.caps.pattern ++ capBytes (s.freeDraw + 1) p.caps.mute
      ++ capBytes (s.freeDraw + 2) p.caps.caution ++ capBytes (s.freeDraw + 3) p.caps.out
      ++ capBytes (s.freeDraw + 4) p.caps.monitor ++ capBytes (s.freeDraw + 5) p.caps.contactor
      ++ capBytes (s.freeDraw + 6) p.caps.limit
      ++ byte2 (codeCauses p.status) ++ byte2 (codeCauses p.log)
  else byte1 (codeStation st) ++ byte1 (codeBool false)

/-! ## STATUS (R164) -/

/-- What the engine holds: its code, and the id and the stage of a transition. The manual gives the
two bytes no value while the engine is free or holds a drive job; they are FFh (log entry 25). -/
def State.engineFields (s : State) : List Byte :=
  match s.engine with
  | .free => byte1 0 ++ absent1 ++ absent1
  | .transition id =>
    byte1 1 ++ byte1 id ++ opt1 ((s.record? id).map (fun r => codeStage r.stage))
  | .drive _ => byte1 2 ++ absent1 ++ absent1

/-- The stations present. -/
def State.presentSet (s : State) : StationSet := StationSet.of (fun st => (s.station st).present)

/-- The fields of STATUS. DESIGN CHOICE (log entry 31): bits 4 to 7 of the lines byte are 0. -/
def State.statusFields (p : Station) (s : State) : List Byte :=
  byte1 (if s.mode = .run then 1 else 0) ++ byte1 (codeBool s.scanReady)
    ++ byte1 (codeStations s.presentSet)
    ++ byte1 (codeBool s.hold + 2 * codeStations (StationSet.of (fun q => (s.port q).localLine)))
    ++ byte1 (codePortState (s.port p).state)
    ++ allStations.flatMap (fun q => byte2 (s.port q).linkErrors) ++ byte2 s.monitor.linkErrors
    ++ allStations.flatMap (fun q => byte2 (s.transmitter q).linkErrors)
    ++ byte1 (s.port p).lost ++ s.engineFields ++ byte1 s.faults.records.length
    ++ byte1 (codeBool s.faults.overflow)

/-! ## Records on the line (R166) -/

/-- The body of a reply. -/
def Reply.body (r : Reply) : List Byte :=
  [r.kind, r.tag] ++ byte1 r.code.code ++ byte1 r.overrun ++ r.fields

/-- The kind byte of a notice (Table 11.5). -/
def Notice.kind : Notice → Byte
  | .transitionEnded _ _ => 0x40
  | .collateral _ _ => 0x41
  | .stationState _ => 0x42
  | .classChanged _ => 0x43
  | .monitorState _ => 0x44
  | .faultAdded _ _ => 0x45
  | .localEntered => 0x46
  | .driveEnded _ _ _ _ => 0x47

/-- The fields of a notice behind its lost count (Table 11.5). -/
def Notice.fields : Notice → List Byte
  | .transitionEnded id result => byte1 id ++ byte1 (codeResult result)
  | .collateral id released => byte1 id ++ byte1 (codeBool released)
  | .stationState x => byte1 (codeStationState x) ++ codeSlot x.slot
  | .classChanged g => byte1 (codeGrade g)
  | .monitorState restored => byte1 (codeBool restored)
  | .faultAdded source kind => byte1 (codeSource source) ++ byte1 (codeKind kind)
  | .localEntered => []
  | .driveEnded arrived failed notDriven closed =>
    byte1 arrived ++ byte1 failed ++ byte1 notDriven
      ++ byte1 (match closed with
        | none => 0
        | some .hold => 1
        | some .hotPause => 2)

/-- The body of a record in transmission on a station port: a notice carries tag 0 and the lost
count. -/
def Sent.body : Sent → List Byte
  | .reply r => r.body
  | .notice lost n => [n.kind, 0] ++ byte1 lost ++ n.fields

/-- The body of a permit record: kind 62h, tag 0. -/
def permitBody (output : Nat) : List Byte := [0x62, 0] ++ byte2 output

/-- The check of a record: the sum of the length byte and every body byte, modulo 65536 (R151). -/
def checkOf (body : List Byte) : Nat := (body.length + (body.map BitVec.toNat).sum) % 65536

/-- The envelope of Table 11.1. -/
def envelope (body : List Byte) : List Byte :=
  [0x5A] ++ byte1 body.length ++ body ++ byte2 (checkOf body)

/-- R151: the body of the bytes of a whole record, start byte first: the length lies in 2 to 250,
that many body bytes follow it, and the check matches. -/
def openEnvelope? : List Byte → Option (List Byte)
  | start :: len :: rest =>
    let body := rest.take len.toNat
    if start = 0x5A ∧ Config.minBody ≤ len.toNat ∧ len.toNat ≤ Config.maxBody
        ∧ rest.length = len.toNat + 2 ∧ rest.drop len.toNat = byte2 (checkOf body) then some body
    else none
  | _ => none

end Sys2Proof.Machine
end

