-- ==== Sys2Proof/Machine/Ports.lean ====
section
/-! DEFINITION. How a record reaches its execution on a station port: the link's discards (R151), the
command queue (R154), the beginning of the command at its head (R155), the port states' own answers
(R156), ILLEGAL (R158), and the checks that the operating commands share. -/

namespace Sys2Proof.Machine

/-! ## Receiving (R151, R152, R154) -/

/-- R151, R152: a link discards a record: its assembler hunts again and its error count rises. -/
def State.discardRecord (link : Link) (s : State) : State :=
  match link with
  | .port p => s.modPort p (fun q =>
      { q with collecting := false, linkErrors := satInc 65535 q.linkErrors })
  | .monitor => { s with monitor :=
      { s.monitor with collecting := false, linkErrors := satInc 65535 s.monitor.linkErrors } }
  | .transmitter st => s.modTransmitter st (fun l =>
      { l with collecting := false, linkErrors := satInc 65535 l.linkErrors })

/-- The assembler of a link turns to collecting or to hunting. -/
def State.setCollecting (link : Link) (b : Bool) (s : State) : State :=
  match link with
  | .port p => s.modPort p (fun q => { q with collecting := b })
  | .monitor => { s with monitor := { s.monitor with collecting := b } }
  | .transmitter st => s.modTransmitter st (fun l => { l with collecting := b })

/-- Whether a link's assembler is collecting. -/
def State.isCollecting (s : State) : Link → Bool
  | .port p => (s.port p).collecting
  | .monitor => s.monitor.collecting
  | .transmitter st => (s.transmitter st).collecting

/-- R154: a whole record offered to the command queue joins its tail, or is dropped and counted. -/
def Port.offer (body : List Byte) (q : Port) : Port :=
  if q.queue.length < Config.commandQueueMax then { q with queue := q.queue ++ [body] }
  else { q with overrun := satInc 255 q.overrun }

/-- R151, R154: a record that arrives on a station port: discarded when it is too short or too long
for the envelope, and offered to the command queue otherwise. The receive assembler of a record that
is offered is left as it stands; PORT_RECORD_RECEIVED returns it to hunting first, and a command row
that stands for its record's arrival leaves it so (log entry 27). -/
def State.queueRecord (p : Station) (body : List Byte) (s : State) : State :=
  if bodyFits body then s.modPort p (Port.offer body) else s.discardRecord (.port p)

/-! ## Beginning a command (R155) -/

/-- R155: the port holds no command in execution and its reply slot is empty. -/
def Port.canBegin (q : Port) : Bool := q.executing.isNone && q.reply.isNone

/-- R155: whether a command with this record body begins at once on port `p`: the port can begin a
command, and this record stands at the head of its queue or the queue is empty. -/
def State.begins (s : State) (p : Station) (body : List Byte) : Bool :=
  !s.por && bodyFits body && (s.port p).canBegin
    && ((s.port p).queue.isEmpty || (s.port p).queue.head? == some body)

/-- R155: the command leaves the queue as its execution begins. -/
def State.begun (p : Station) (s : State) : State :=
  s.modPort p (fun q => { q with queue := q.queue.tail })

/-- R155: a command given to port `p` is executed by `effect` when it begins at once; otherwise its
record joins the queue (log entry 2). Neither way moves the receive assembler (log entry 27). -/
def State.submit (p : Station) (body : List Byte) (effect : State → State) (s : State) : State :=
  if s.por then s
  else if s.begins p body then effect (s.begun p)
  else s.queueRecord p body

/-- The record body of a station-port command. -/
def recordBody (i : Instr) : List Byte :=
  match encodeRecord i with
  | some (_, body) => body
  | none => []

/-! ## Port states (R156, R158) -/

/-- R158: an ILLEGAL record is answered ILLEGAL with the kind received, and an OPEN port becomes
STOPPED. The reply carries the record's tag. -/
def State.illegalEffect (p : Station) (body : List Byte) (s : State) : State :=
  (s.modPort p (fun q => { q with
      state := match q.state with
        | .isOpen => .isStopped
        | .isStopped => .isStopped
        | .isLocal => .isLocal })).answer p 0xFF (body.getD 1 0) .illegal [body.getD 0 0]

/-- R156: the commands whose own rules list no LOCAL check. -/
def answeredLocal : CmdKind → Bool
  | .loadSite => true
  | .loadStation => true
  | .loadMap => true
  | .loadPattern => true
  | .loadPositions => true
  | .clearSlot => true
  | .drive => true
  | .lock => true
  | .resume => true
  | .request => false
  | .cancel => false
  | .consent => false
  | .limit => false
  | .sync => false
  | .status => false
  | .readContactors => false
  | .readPattern => false
  | .readTowers => false
  | .readQueue => false
  | .readFaults => false
  | .readClipLog => false
  | .clearClipLog => false
  | .clearFault => false
  | .reclaim => false

/-- R156: what the port's state answers, or the command's own checks. -/
def State.gate (p : Station) (k : CmdKind) (tag : Byte) (own : State → State) (s : State) : State :=
  match (s.port p).state with
  | .isOpen => own s
  | .isStopped =>
    if k = .status ∨ k = .resume then own s else s.reply p k tag .stopped []
  | .isLocal => if answeredLocal k then s.reply p k tag .localPanel [] else own s

/-- A command of a kind, executed as R156 gives. -/
def State.command (p : Station) (k : CmdKind) (tag : Byte) (i : Instr) (own : State → State)
    (s : State) : State :=
  s.submit p (recordBody i) (fun s => s.gate p k tag own)

/-- A command with a counted field: a record whose body length is wrong for its kind is ILLEGAL
(R167). -/
def State.countedCommand (p : Station) (k : CmdKind) (tag : Byte) (i : Instr) (lengthOk : Bool)
    (own : State → State) (s : State) : State :=
  if lengthOk then s.command p k tag i own
  else s.submit p (recordBody i) (fun s => s.illegalEffect p (recordBody i))

/-! ## Shared checks -/

/-- The commands taken in CONFIG only (R40). -/
def State.inConfig (p : Station) (k : CmdKind) (tag : Byte) (own : State → State) (s : State) :
    State :=
  if s.mode = .run then s.reply p k tag .wrongMode [] else own s

/-- The checks of REQUEST, CANCEL, CONSENT, LIMIT and SYNC in their order: the mode, LOCAL, the
station's presence (R58, R62, R65, R136, R157). -/
def State.inRun (p : Station) (k : CmdKind) (tag : Byte) (own : State → State) (s : State) : State :=
  if s.mode = .config then s.reply p k tag .wrongMode []
  else if (s.port p).state = .isLocal then s.reply p k tag .localPanel []
  else if !(s.station p).present then s.reply p k tag .notPresent []
  else own s

/-- The station and the slot a command names, or BAD_VALUE with these fields (R21). -/
def State.withSlot (p : Station) (k : CmdKind) (tag station slot : Byte) (badFields : List Byte)
    (own : Station → Fin 4 → State → State) (s : State) : State :=
  match stationOf? station, slotOf? slot with
  | some st, some n => own st n s
  | _, _ => s.reply p k tag .badValue badFields

/-- A slot of the Pattern Table is written. -/
def State.setSlot (st : Station) (n : Fin 4) (p : Option Pattern) (s : State) : State :=
  { s with slots := s.slots.modify st (fun l => l.set n.val p) }

end Sys2Proof.Machine
end

