-- ==== Sys2Proof/Machine/Requests.lean ====
section
/-! DEFINITION. The operating commands: REQUEST, CANCEL, CONSENT, LIMIT and SYNC (R58 to R65, R136,
R157). -/

namespace Sys2Proof.Machine

/-! ## REQUEST (R58 to R61) -/

/-- The QUEUED record of a station (R57: at most one). -/
def State.queuedOf (s : State) (st : Station) : Option TRecord :=
  s.queue.find? (fun r => r.station == st && r.stage == .queued)

/-- R61 step 1: the station's QUEUED record ends SUPERSEDED. -/
def State.supersede (st : Station) (s : State) : State :=
  match s.queuedOf st with
  | none => s
  | some r => s.endRecord r.id .superseded

/-- R61 step 2: the new record. The wait limit is as carried or clamped (R58). -/
def State.newRecord (s : State) (st : Station) (slot : Fin 4) (allow : Byte) (wait : Half)
    (id : Nat) : TRecord :=
  let w := min wait.toNat Config.waitLimitMax
  { id, station := st, target := slot, allowCollateral := flagOf allow, waitLimit := w,
    acceptedAt := seconds s.time,
    waitExpiry := if w = 0 then none else some (s.time + 1000 * w),
    stage := .queued, waitingConsent := false, flight := none }

/-- R61: an accepted REQUEST, up to the arbiter's run. -/
def State.enqueue (p : Station) (tag : Byte) (slot : Fin 4) (allow : Byte) (wait : Half)
    (s : State) : State :=
  let s := s.supersede p
  let c := chooseId (s.queue.map TRecord.id) (s.queue.length) s.nextId
  ({ s with nextId := c.2, queue := s.queue ++ [s.newRecord p slot allow wait c.1] }).reply p
    .request tag .accepted (byte1 c.1)

/-- R59: the request needs no work. -/
def State.needsNoWork (s : State) (st : Station) (slot : Fin 4) : Bool :=
  (s.station st).state == .steady slot && s.allSatisfied st slot

/-- R58: REQUEST. -/
def State.request (p : Station) (tag slot allow : Byte) (wait : Half) (s : State) : State :=
  match slotOf? slot with
  | none => s.reply p .request tag .badValue []
  | some n =>
    if (s.slot p n).isNone then s.reply p .request tag .noPattern []
    else if s.needsNoWork p n then s.reply p .request tag .noChange []
    else if !compatible (s.combination p n) then s.reply p .request tag .conflict []
    else (s.enqueue p tag n allow wait).arbiter

def execRequest (p : Station) (tag slot allowCollateral : Byte) (waitLimit : Half) (s : State) :
    Host.Outcome State Fault Refusal :=
  .next (s.command p .request tag (.request p tag slot allowCollateral waitLimit)
    (State.inRun p .request tag (State.request p tag slot allowCollateral waitLimit)))

/-! ## CANCEL (R62, R63) -/

/-- R62: CANCEL. The reply is made before the record ends. -/
def State.cancel (p : Station) (tag id : Byte) (s : State) : State :=
  match s.record? id.toNat with
  | none => s.reply p .cancel tag .unknownId []
  | some r =>
    if r.station ≠ p then s.reply p .cancel tag .unknownId []
    else match r.stage with
      | .queued => (s.reply p .cancel tag .ok []).endRecord r.id .cancelled
      | .muting => (s.reply p .cancel tag .ok []).thenArbiter (State.endMuting .cancelled)
      | _ => s.reply p .cancel tag .late []

def execCancel (p : Station) (tag id : Byte) (s : State) : Host.Outcome State Fault Refusal :=
  .next (s.command p .cancel tag (.cancel p tag id)
    (State.inRun p .cancel tag (State.cancel p tag id)))

/-! ## CONSENT (R65) -/

/-- The consent a field carries: 0 ALLOW, 1 DENY. -/
def consentOf? (b : Byte) : Option Consent :=
  if b = 0 then some .allow else if b = 1 then some .deny else none

/-- R65: CONSENT. A change of value runs the arbiter after the reply. -/
def State.consent (p : Station) (tag value : Byte) (s : State) : State :=
  match consentOf? value with
  | none => s.reply p .consent tag .badValue []
  | some c =>
    let s' := (s.modStation p (fun r => { r with consent := c })).reply p .consent tag .ok []
    if (s.station p).consent = c then s' else s'.arbiter

def execConsent (p : Station) (tag value : Byte) (s : State) : Host.Outcome State Fault Refusal :=
  .next (s.command p .consent tag (.consent p tag value)
    (State.inRun p .consent tag (State.consent p tag value)))

/-! ## LIMIT (R136) -/

/-- R136: LIMIT. -/
def State.limit (p : Station) (tag : Byte) (value : Half) (s : State) : State :=
  let v := min value.toNat Config.fullScale
  ((s.modStation p (fun r => { r with localLimit := v })).recompute p).reply p .limit tag .ok
    (byte2 v)

def execLimit (p : Station) (tag : Byte) (value : Half) (s : State) :
    Host.Outcome State Fault Refusal :=
  .next (s.command p .limit tag (.limit p tag value)
    (State.inRun p .limit tag (State.limit p tag value)))

/-! ## SYNC (R157) -/

/-- The ids of a station's records in the queue, whatever their stages. -/
def State.idsOf (s : State) (st : Station) : List Nat :=
  (s.queue.filter (fun r => r.station == st)).map TRecord.id

/-- R157: SYNC. -/
def State.sync (p : Station) (tag : Byte) (s : State) : State :=
  if (s.idsOf p).isEmpty then s.reply p .sync tag .ok []
  else s.modPort p (fun q => { q with executing := some { tag, ids := s.idsOf p } })

def execSync (p : Station) (tag : Byte) (s : State) : Host.Outcome State Fault Refusal :=
  .next (s.command p .sync tag (.sync p tag) (State.inRun p .sync tag (State.sync p tag)))

end Sys2Proof.Machine
end

