-- ==== Sys2Proof/Machine/Lines.lean ====
section
/-! DEFINITION. The lines: POR (R41), RESTART (R42, R43), LOCAL (R67, R159, R160), HOLD (R68, R81) and
the raw sense values (R6). While POR is held every other line does no more than stand at its level. -/

namespace Sys2Proof.Machine

/-! ## POR (R41) -/

/-- The part while POR holds it: every block at its power-on value and nothing running; the levels of
the lines and of the sense inputs are the site's and stay (log entry 1). -/
def State.held (s : State) : State :=
  { State.reset with
    por := true
    baud := s.baud
    hold := s.hold
    restartLine := s.restartLine
    firstValueExpiry := none
    contactors := s.contactors.map (fun (c : Contactor) => { Contactor.reset c.raw with debounceExpiry := none })
    permits := ⟨.absent, .absent, .absent⟩
    transmitters := ⟨.reset none, .reset none, .reset none⟩
    ports := s.ports.mapAll (fun _ (q : Port) => { Port.reset with localLine := q.localLine })
    freeDraw := s.freeDraw
    pending := s.pending }

/-- R141, R42, R41: a permit record of 0 for each present station. -/
def State.permitZero (s : State) : State :=
  allStations.foldl (fun s st => if (s.station st).present then s.makePermit st 0 else s) s

/-- R41: POR releases: CONFIG, every block at its power-on value, the BAUD strap read. -/
def State.powerUp (baudHigh : Bool) (s : State) : State :=
  let s := s.held
  (({ s with
      por := false
      baud := if baudHigh then .b38400 else .b9600
      firstValueExpiry := some Config.firstValueMs
      contactors := s.contactors.map (fun (c : Contactor) => { c with debounceExpiry := some Config.debounceMs })
      ports := s.ports.mapAll (fun _ (q : Port) => { q with
        state := if q.localLine then .isLocal else .isOpen }) }).permitZero).recomputeAll allStations

def execPowerOnReset (baudHigh : Bool) (s : State) : Host.Outcome State Fault Refusal :=
  .next (s.powerUp baudHigh)

def execPorAsserted (s : State) : Host.Outcome State Fault Refusal := .next s.held

/-! ## RESTART (R42, R43, R165) -/

/-- R165: a station port at RESTART: a record in transmission is sent to its end. -/
def Port.restarted (q : Port) : Port :=
  { q with
    state := if q.localLine then .isLocal else .isOpen
    collecting := false
    linkErrors := 0
    queue := []
    executing := none
    overrun := 0
    reply := none
    notices := []
    lost := 0 }

/-- R42 steps 1 to 3: the coils, the engine and the queue, the stations, the conformance and permit
units and the links. DESIGN CHOICE (log entry 29): R42, R135 and R165 do not name a permit record that
waits, not yet begun, on the link of a station that is not present; it is kept and sent later. -/
def State.restartBlocks (s : State) : State :=
  ({ s with
    contactors := s.contactors.map Contactor.endTravel
    engine := .free
    queue := []
    nextId := 1
    stations := s.stations.mapAll (fun _ (r : StationRecord) =>
      { r with consent := .allow, localLimit := 1000, state := .none })
    conformance := ⟨.empty, .empty, .empty⟩
    permits := ⟨.absent, .absent, .absent⟩
    transmitters := s.transmitters.mapAll (fun _ (l : TransmitterLink) => { l with collecting := false, linkErrors := 0 })
    monitor := { collecting := false, linkErrors := 0, invalidSets := ⟨0, 0, 0⟩ }
    ports := s.ports.mapAll (fun _ (q : Port) => q.restarted) }).permitZero

/-- R42: a RESTART, whole. Steps 4 and 5 are the derivation, deferred before scan ready, and
recognition in RUN; the targets are recomputed from what they leave (R141). -/
def State.restarted (s : State) : State :=
  let s := s.restartBlocks
  let s := if s.scanReady then s.deriveAll else s
  let s := if s.mode = .run then s.recogniseAll else s
  s.recomputeAll allStations

/-- R42: the RESTART line asserts; only a change from released to asserted is a RESTART. -/
def execRestart (s : State) : Host.Outcome State Fault Refusal :=
  .next (
    if s.restartLine then s
    else if s.por then { s with restartLine := true }
    else ({ s with restartLine := true }).restarted)

def execRestartLineRelease (s : State) : Host.Outcome State Fault Refusal :=
  .next { s with restartLine := false }

/-! ## LOCAL (R67, R159, R160) -/

/-- R67: one record of the station ends ENDED_LOCAL if it is QUEUED or in MUTING. -/
def State.endLocal (id : Nat) (s : State) : State :=
  match s.record? id with
  | none => s
  | some r =>
    match r.stage with
    | .queued => s.endRecord id .endedLocal
    | .muting => s.endMuting .endedLocal
    | _ => s

/-- R67: the records of the station end, in queue order; the arbiter runs once they have (log entry
9). -/
def State.endLocalRecords (st : Station) (s : State) : State :=
  s.thenArbiter (fun s => (s.idsOf st).foldl (fun s id => s.endLocal id) s)

/-- R159: the port takes the assertion of its LOCAL line. -/
def State.enterLocal (st : Station) (s : State) : State :=
  let s := s.modPort st (fun q => { q with executing := none, queue := [] })
  let s := if s.mode = .run then s.endLocalRecords st else s
  (s.notify st .localEntered).modPort st (fun q => { q with state := .isLocal })

def execLocalAssert (st : Station) (s : State) : Host.Outcome State Fault Refusal :=
  .next (
    if (s.port st).localLine then s
    else
      let s := s.modPort st (fun q => { q with localLine := true })
      if s.por then s else s.enterLocal st)

/-- R160: the release of a LOCAL line. -/
def execLocalRelease (st : Station) (s : State) : Host.Outcome State Fault Refusal :=
  .next (s.modPort st (fun q => { q with localLine := false }))

/-! ## HOLD (R68, R81, R50) -/

def execHoldAssert (s : State) : Host.Outcome State Fault Refusal :=
  .next (
    if s.hold then s
    else if s.por then { s with hold := true }
    else ({ s with hold := true }).holdStarts)

/-- R81, R84, R68: HOLD releases: the hold timer returns to 0, starts resume, and the arbiter runs. -/
def execHoldRelease (s : State) : Host.Outcome State Fault Refusal :=
  .next (
    if !s.hold then s
    else if s.por then { s with hold := false }
    else ({ s with hold := false }).holdStops.arbiter)

/-! ## Raw sense values (R6, R7) -/

def execRawSenseChange (k : Fin 96) (value : Sense) (s : State) :
    Host.Outcome State Fault Refusal :=
  .next (
    if s.por then s.modContactor k.val (fun c => { c with raw := value })
    else s.modContactor k.val (Contactor.rawChange s.time value))

end Sys2Proof.Machine
end

