-- ==== Sys2Proof/Machine/Timers.lean ====
section
/-! DEFINITION. The expiries: of the debounce timers (R6) and the first-value deadline (R7), the
travel limits (R15), the engine's and the drive job's timers (R50, R80, R81, R89, R96, R102), the
wait limits (R64), the monitor timers (R123) and the Permit Unit's timers (R128, R129, R134). An
expiry of a timer that does not run is no event of the part: it changes nothing (log entry 3). -/

namespace Sys2Proof.Machine

/-- What an expiry does: at its moment, if its timer runs and the part is not held. -/
def State.onExpiry (expiry : Option Nat) (f : State → State) (s : State) : State :=
  if s.por then s
  else match expiry with
    | none => s
    | some t => f (s.advanceTo t)

/-! ## The Sense Scanner -/

/-- R6, R7: the raw value of contactor `k` becomes its debounced value; from scan ready on a sense
event is reported. -/
def State.debounceExpires (k : Nat) (s : State) : State :=
  let v := (s.contactor k).raw
  let s := s.modContactor k Contactor.settleRaw
  if s.scanReady then
    match s.senseReport k v with
    | (s, r) => s.report r
  else s.checkScanReady

def execSenseEvent (k : Fin 96) (s : State) : Host.Outcome State Fault Refusal :=
  .next (s.onExpiry (s.contactor k.val).debounceExpiry
    (State.thenArbiter (State.debounceExpires k.val)))

/-- R7: every contactor still without a first debounced value takes NONE. -/
def State.deadlinePasses (s : State) : State :=
  ({ s with
    firstValueExpiry := none
    contactors := s.contactors.map (Contactor.takeDeadline s.time) }).checkScanReady

def execFirstValueDeadline (s : State) : Host.Outcome State Fault Refusal :=
  .next (s.onExpiry s.firstValueExpiry State.deadlinePasses)

/-! ## Travel limits -/

/-- R15, R16: the travel limit of contactor `k` expires. -/
def State.travelLimitExpires (k : Nat) (s : State) : State :=
  match s.travelExpires k with
  | (s, r) => s.report r

def execTravelLimitExpiry (k : Fin 96) (s : State) : Host.Outcome State Fault Refusal :=
  .next (s.onExpiry (s.contactor k.val).travelExpiry
    (State.thenArbiter (State.travelLimitExpires k.val)))

/-! ## The drive job -/

/-- R50: the moment one of the job's times reaches its limit, while the starts are open. -/
def State.driveLimit (s : State) (cause : CloseCause) : Option Nat :=
  match s.driveJob with
  | none => none
  | some j =>
    if j.closed.isSome then none
    else match cause with
      | .hold => j.holdStart.map (fun t => t + 1000 * s.site.holdLimit)
      | .hotPause => j.hotStart.map (fun t => t + 1000 * s.site.muteTimeout)

/-- R50: the job's starts close. -/
def State.closeStarts (cause : CloseCause) (s : State) : State :=
  (s.modDriveJob (fun j => { j with closed := some cause })).endDriveIfDone

def execDriveJobStartsClosed (cause : CloseCause) (s : State) :
    Host.Outcome State Fault Refusal :=
  .next (s.onExpiry (s.driveLimit cause) (State.thenArbiter (State.closeStarts cause)))

/-! ## The engine's timers -/

/-- A moment of the record the engine holds, while it stands in one of these stages. -/
def State.flightExpiry (s : State) (stages : List Stage) (f : Flight → Option Nat) : Option Nat :=
  match s.flying with
  | none => none
  | some (r, g) => if stages.contains r.stage then f g else none

/-- R80: when the mute timer expires. -/
def State.muteExpiry (s : State) : Option Nat := s.flightExpiry [.muting] Flight.muteExpiry

/-- R81: when the hold timer reaches the hold limit. -/
def State.holdLimitAt (s : State) : Option Nat :=
  s.flightExpiry [.muting, .moving]
    (fun f => f.holdStart.map (fun t => t + 1000 * s.site.holdLimit))

/-- R89: when the hot-pause timer reaches the mute timeout. -/
def State.hotLimitAt (s : State) : Option Nat :=
  s.flightExpiry [.moving] (fun f => f.hotStart.map (fun t => t + 1000 * s.site.muteTimeout))

/-- R96: when the settle timer expires. -/
def State.settleExpiry (s : State) : Option Nat := s.flightExpiry [.settling] Flight.settleExpiry

/-- R102: when the proof timer expires. -/
def State.proofExpiry (s : State) : Option Nat := s.flightExpiry [.proving] Flight.proofExpiry

def execMuteTimerExpiry (s : State) : Host.Outcome State Fault Refusal :=
  .next (s.onExpiry s.muteExpiry (State.thenArbiter (State.endMuting .failedHot)))

/-- R81, R89: the hold limit in MUTING and in MOVING. -/
def State.holdLimitReached (s : State) : State :=
  match s.flying with
  | none => s
  | some (r, _) =>
    if r.stage = .muting then s.endMuting .failedHold else s.enterAborting .failedHold

def execHoldLimitReached (s : State) : Host.Outcome State Fault Refusal :=
  .next (s.onExpiry s.holdLimitAt (State.thenArbiter State.holdLimitReached))

def execHotPauseLimitReached (s : State) : Host.Outcome State Fault Refusal :=
  .next (s.onExpiry s.hotLimitAt (State.thenArbiter (State.enterAborting .failedHot)))

def execSettleTimerExpiry (s : State) : Host.Outcome State Fault Refusal :=
  .next (s.onExpiry s.settleExpiry State.settleExpires)

def execProofTimerExpiry (s : State) : Host.Outcome State Fault Refusal :=
  .next (s.onExpiry s.proofExpiry (State.thenArbiter State.proofFails))

/-! ## Wait limits -/

/-- R64: when the wait limit of a QUEUED record expires. -/
def State.waitExpiryOf (s : State) (id : Nat) : Option Nat :=
  match s.record? id with
  | none => none
  | some r => if r.stage = .queued then r.waitExpiry else none

def execWaitLimitExpiry (id : Nat) (s : State) : Host.Outcome State Fault Refusal :=
  .next (s.onExpiry (s.waitExpiryOf id) (State.endRecord id .expired))

/-! ## The Conformance Unit -/

/-- R123: a station's monitor timer expires. -/
def State.monitorExpires (st : Station) (s : State) : State :=
  ((s.modConf st (fun c => { c with lost := true, monitorExpiry := none })).notify st
    (.monitorState false)).recompute st

def execMonitorTimerExpiry (st : Station) (s : State) : Host.Outcome State Fault Refusal :=
  .next (s.onExpiry (s.conf st).monitorExpiry (State.monitorExpires st))

/-! ## The Permit Unit -/

/-- R128: when the cold dwell of a station in COOLING expires. -/
def State.dwellExpiryOf (s : State) (st : Station) : Option Nat :=
  if (s.permit st).cold = .cooling then (s.permit st).dwellExpiry else none

def execColdDwellExpiry (st : Station) (s : State) : Host.Outcome State Fault Refusal :=
  .next (s.onExpiry (s.dwellExpiryOf st) (State.thenArbiter (State.setCold st .cold none)))

/-- R129: a station's report timeout expires. -/
def State.reportExpires (st : Station) (s : State) : State :=
  ((s.modPermit st (fun p => { p with reportExpiry := none })).setCold st .unknown none).raiseFault
    (.station st) .linkSilent

def execReportTimeoutExpiry (st : Station) (s : State) : Host.Outcome State Fault Refusal :=
  .next (s.onExpiry (s.permit st).reportExpiry (State.thenArbiter (State.reportExpires st)))

def execRampTick (st : Station) (s : State) : Host.Outcome State Fault Refusal :=
  .next (s.onExpiry (s.permit st).rampExpiry (State.tickRamp st))

end Sys2Proof.Machine
end

