-- ==== Sys2Proof/Machine/Links.lean ====
section
/-! DEFINITION. The links: whole records and discarded ones (R151 to R154), sample sets (R112 to
R124), power reports (R127) and the ends of transmissions (R135, R163). -/

namespace Sys2Proof.Machine

/-! ## Receiving -/

/-- What a running part does; a part that POR holds does nothing. -/
def State.running (f : State → State) (s : State) : State := if s.por then s else f s

def execStartByte (link : Link) (s : State) : Host.Outcome State Fault Refusal :=
  .next (s.running (State.setCollecting link true))

/-- R151: the record is discarded and counted, whichever case discards it. -/
def execDiscardedRecord (link : Link) (_cause : DiscardCause) (s : State) :
    Host.Outcome State Fault Refusal :=
  .next (s.running (State.discardRecord link))

/-- R151: more than 10 ms between two bytes of a record; a hunting assembler has no record to
discard. -/
def execInterbyteTimeout (link : Link) (s : State) : Host.Outcome State Fault Refusal :=
  .next (s.running (fun s => if s.isCollecting link then s.discardRecord link else s))

/-- R151: a whole record has arrived on a link; a length outside 2 to 250 discards it. -/
def State.received (link : Link) (body : List Byte) (f : State → State) (s : State) : State :=
  if bodyFits body then f (s.setCollecting link false) else s.discardRecord link

def execPortRecordReceived (p : Station) (body : List Byte) (s : State) :
    Host.Outcome State Fault Refusal :=
  .next (s.running (State.received (.port p) body (State.modPort p (Port.offer body))))

/-! ## Sample sets -/

/-- R113: the station is in the mute set of a record in MUTING, MOVING, SETTLING or ABORTING. -/
def State.mutedByStage (s : State) (st : Station) : Bool :=
  match s.flying with
  | some (r, f) => r.stage.holdsMute && f.muteSet.has st
  | none => false

/-- R113: the set is ignored. -/
def State.ignoresSet (s : State) (st : Station) : Bool :=
  s.mode == .config || !(s.station st).present || (s.station st).state.slot.isNone
    || s.mutedByStage st

/-- R114: an invalid set is counted. -/
def State.countInvalid (st : Station) (s : State) : State :=
  { s with monitor := { s.monitor with
    invalidSets := s.monitor.invalidSets.modify st (satInc 65535) } }

/-- R119, R99: a valid set for a station in PROVING. -/
def State.provingSet (st : Station) (p : Pattern) (ss : List Sample) (s : State) : State :=
  let s := s.modConf st (fun c => { c with towers := c.towers.map (measureTower p ss) })
  s.takeVerdict st ((s.conf st).towers.all (fun t => t.raw != .out))

/-- R120 steps 1 and 2: the monitor timer restarts, and a monitor-lost station is restored. -/
def State.heardMonitor (st : Station) (s : State) : State :=
  let wasLost := (s.conf st).lost
  let s := (s.startMonitor st).modConf st (fun c => { c with lost := false })
  if wasLost then s.notify st (.monitorState true) else s

/-- R120: a valid set for a station in STEADY. -/
def State.steadySet (st : Station) (p : Pattern) (ss : List Sample) (s : State) : State :=
  let wasLost := (s.conf st).lost
  let old := (s.conf st).stationClass
  let r := s.station st
  let s := (s.heardMonitor st).modConf st (fun c => { c with
    towers := c.towers.map (fun t => (measureTower p ss t).persist r.escalate r.deescalate) })
  let new := (s.conf st).stationClass
  let s := if new = old then s else s.notify st (.classChanged new)
  if wasLost = true ∨ new ≠ old then s.recompute st else s

/-- R112 to R114: a sample set handed to the Conformance Unit. -/
def State.takeSampleSet (st : Station) (ss : List Sample) (s : State) : State :=
  if s.ignoresSet st then s
  else match s.currentPattern st with
    | none => s
    | some p =>
      if sampleSetValid p ss then
        if (s.station st).state.isProving then s.provingSet st p ss else s.steadySet st p ss
      else s.countInvalid st

/-- R153: a whole record on the monitor link. -/
def State.monitorRecord (body : List Byte) (s : State) : State :=
  match sampleSet? body with
  | some (st, ss) => s.takeSampleSet st ss
  | none => s.discardRecord .monitor

def execSampleSet (body : List Byte) (s : State) : Host.Outcome State Fault Refusal :=
  .next (s.running (State.received .monitor body (State.thenArbiter (State.monitorRecord body))))

/-! ## Power reports -/

/-- R167: the forward power of a body that decodes as a power report: kind 61h, length 4. -/
def powerReport? : List Byte → Option Nat
  | [kind, _tag, hi, lo] => if kind = 0x61 then some (half hi lo).toNat else none
  | _ => none

/-- R127: a power report handed to the Permit Unit. -/
def State.takePowerReport (st : Station) (power : Nat) (s : State) : State :=
  if (s.station st).present then
    let w := min power Config.forwardMax
    (s.modPermit st (fun p => { p with
      lastPower := some w
      reportExpiry := some (s.time + (s.station st).reportTimeout) })).applyReading st w
  else s

/-- R153: a whole record on a transmitter link. -/
def State.transmitterRecord (st : Station) (body : List Byte) (s : State) : State :=
  match powerReport? body with
  | some power => s.takePowerReport st power
  | none => s.discardRecord (.transmitter st)

def execPowerReport (st : Station) (body : List Byte) (s : State) :
    Host.Outcome State Fault Refusal :=
  .next (s.running (State.received (.transmitter st) body
    (State.thenArbiter (State.transmitterRecord st body))))

/-! ## Ends of transmissions -/

def execTransmitComplete (p : Station) (s : State) : Host.Outcome State Fault Refusal :=
  .next (s.running (State.modPort p (fun q => ({ q with sending := none }).beginSending)))

def execPermitTransmitComplete (st : Station) (s : State) : Host.Outcome State Fault Refusal :=
  .next (s.running (State.modTransmitter st (fun l =>
    { l with sending := l.waiting, waiting := none })))

end Sys2Proof.Machine
end

