-- ==== Sys2Proof/Machine/Clock.lean ====
section
/-! DEFINITION. What the part does by itself when no command waits for it (log entry 3): a station
port begins the record at the head of its command queue (R155), a timer that stands at its expiry
expires, and otherwise the time base counts one millisecond (R142). Things that meet in one moment
are taken one after the other; the manual leaves their order open, and the order here is fixed. -/

namespace Sys2Proof.Machine

/-- R155: the record a port would begin now, as the command it spells. -/
def State.portTurn (s : State) (p : Station) : Option Instr :=
  if (s.port p).canBegin then (s.port p).queue.head?.map (decodeRecord p) else none

/-- Whether a timer stands at its expiry. -/
def due (now : Nat) (expiry : Option Nat) : Bool :=
  match expiry with
  | some t => decide (t ≤ now)
  | none => false

/-- The timers of one contactor. -/
def State.contactorDue (s : State) (k : Fin 96) : Option Instr :=
  if due s.time (s.contactor k.val).debounceExpiry then some (.senseEvent k)
  else if due s.time (s.contactor k.val).travelExpiry then some (.travelLimitExpiry k)
  else none

/-- The timers of one station. -/
def State.stationDue (s : State) (st : Station) : Option Instr :=
  if due s.time (s.dwellExpiryOf st) then some (.coldDwellExpiry st)
  else if due s.time (s.permit st).reportExpiry then some (.reportTimeoutExpiry st)
  else if due s.time (s.permit st).rampExpiry then some (.rampTick st)
  else if due s.time (s.conf st).monitorExpiry then some (.monitorTimerExpiry st)
  else none

/-- The timers of the job in the engine and of the records in the queue. -/
def State.jobDue (s : State) : Option Instr :=
  if due s.time (s.driveLimit .hold) then some (.driveJobStartsClosed .hold)
  else if due s.time (s.driveLimit .hotPause) then some (.driveJobStartsClosed .hotPause)
  else if due s.time s.muteExpiry then some .muteTimerExpiry
  else if due s.time s.holdLimitAt then some .holdLimitReached
  else if due s.time s.hotLimitAt then some .hotPauseLimitReached
  else if due s.time s.settleExpiry then some .settleTimerExpiry
  else if due s.time s.proofExpiry then some .proofTimerExpiry
  else (s.queue.find? (fun r => due s.time (s.waitExpiryOf r.id))).map (fun r => .waitLimitExpiry r.id)

/-- The event the part takes by itself now, if any. -/
def State.ownEvent (s : State) : Option Instr :=
  if s.por then none
  else (allStations.findSome? s.portTurn).orElse fun _ =>
    ((List.finRange 96).findSome? s.contactorDue).orElse fun _ =>
    (allStations.findSome? s.stationDue).orElse fun _ =>
    s.jobDue.orElse fun _ =>
    if due s.time s.firstValueExpiry then some .firstValueDeadline else none

/-- R142: the time base counts one millisecond; while POR holds the part nothing counts. -/
def State.tick (s : State) : State := if s.por then s else { s with time := s.time + 1 }

end Sys2Proof.Machine
end

