-- ==== Sys2Proof/Machine/Control.lean ====
section
/-! DEFINITION. The clears and the port controls: CLEAR CLIP LOG (R139), CLEAR FAULT (R148, R149),
RESUME (R158), RECLAIM (R160) and the execution of an ILLEGAL record (R158). -/

namespace Sys2Proof.Machine

/-- R139: CLEAR CLIP LOG. -/
def State.clearClipLog (p : Station) (tag : Byte) (mask : Half) (s : State) : State :=
  if (s.port p).state = .isLocal then s.reply p .clearClipLog tag .localPanel []
  else if !(s.station p).present then s.reply p .clearClipLog tag .notPresent []
  else match causesOf? mask with
    | none => s.reply p .clearClipLog tag .badValue []
    | some m =>
      let log := ((s.permit p).log.diff m).union (s.permit p).status
      (s.modPermit p (fun q => { q with log := log })).reply p .clearClipLog tag .ok
        (byte2 (codeCauses log))

def execClearClipLog (p : Station) (tag : Byte) (mask : Half) (s : State) :
    Host.Outcome State Fault Refusal :=
  .next (s.command p .clearClipLog tag (.clearClipLog p tag mask) (State.clearClipLog p tag mask))

/-- R149: one record removed, or every record with the flag and the dropped count. -/
def FaultList.clearAt (i : Nat) (l : FaultList) : FaultList := { l with records := l.records.eraseIdx i }
def FaultList.clearAll : FaultList := { records := [], overflow := false, dropped := 0 }

/-- R148: CLEAR FAULT: an index of 0 to 15, or FFh for all records. -/
def State.clearFault (p : Station) (tag index : Byte) (s : State) : State :=
  if (s.port p).state = .isLocal then s.reply p .clearFault tag .localPanel []
  else if index = 0xFF then
    if s.faults = FaultList.clearAll then s.reply p .clearFault tag .noChange []
    else ({ s with faults := FaultList.clearAll }).reply p .clearFault tag .ok (byte1 0)
  else if 15 < index.toNat then s.reply p .clearFault tag .badValue []
  else if s.faults.records.length ≤ index.toNat then s.reply p .clearFault tag .noChange []
  else
    ({ s with faults := s.faults.clearAt index.toNat }).reply p .clearFault tag .ok
      (byte1 (s.faults.records.length - 1))

def execClearFault (p : Station) (tag index : Byte) (s : State) : Host.Outcome State Fault Refusal :=
  .next (s.command p .clearFault tag (.clearFault p tag index) (State.clearFault p tag index))

/-- R158: RESUME. In LOCAL the port answers it before this (R156). -/
def State.resume (p : Station) (tag : Byte) (s : State) : State :=
  match (s.port p).state with
  | .isStopped =>
    (s.modPort p (fun q => { q with state := .isOpen })).reply p .resume tag .ok []
  | .isOpen => s.reply p .resume tag .noChange []
  | .isLocal => s.reply p .resume tag .localPanel []

def execResume (p : Station) (tag : Byte) (s : State) : Host.Outcome State Fault Refusal :=
  .next (s.command p .resume tag (.resume p tag) (State.resume p tag))

/-- R160: RECLAIM. In STOPPED the port answers it before this (R156). -/
def State.reclaim (p : Station) (tag : Byte) (s : State) : State :=
  match (s.port p).state with
  | .isLocal =>
    if (s.port p).localLine then s.reply p .reclaim tag .localPanel []
    else (s.modPort p (fun q => { q with state := .isOpen })).reply p .reclaim tag .ok []
  | .isOpen => s.reply p .reclaim tag .noChange []
  | .isStopped => s.reply p .reclaim tag .stopped []

def execReclaim (p : Station) (tag : Byte) (s : State) : Host.Outcome State Fault Refusal :=
  .next (s.command p .reclaim tag (.reclaim p tag) (State.reclaim p tag))

/-- R158: an ILLEGAL record. A body that spells a command is no ILLEGAL record: it waits in the
queue for its own execution. -/
def execIllegal (p : Station) (body : List Byte) (s : State) : Host.Outcome State Fault Refusal :=
  .next (
    if (decodeCommand? p body).isSome then
      if s.por then s else s.queueRecord p body
    else s.submit p body (State.illegalEffect p body))

end Sys2Proof.Machine
end

