-- ==== Sys2Proof/Machine/Loads.lean ====
section
/-! DEFINITION. The configuration commands: LOAD SITE, LOAD STATION, LOAD MAP, LOAD PATTERN,
LOAD POSITIONS, CLEAR SLOT, DRIVE and LOCK (R21 to R27, R44 to R53). -/

namespace Sys2Proof.Machine

/-! ## LOAD SITE (R44, R141) -/

/-- R44, R141: a LOAD SITE makes station C present. -/
def State.makePresent (st : Station) (s : State) : State :=
  (((s.modStation st (fun r => { r with present := true })).modPermit st
    (fun _ => Permit.absent)).makePermit st 0).recompute st

/-- R44, R141: a LOAD SITE makes station C absent. -/
def State.makeAbsent (st : Station) (s : State) : State :=
  (s.modStation st (fun r => { r with present := false })).modPermit st (fun _ => Permit.absent)

/-- R44: the presence of station C becomes `present`. -/
def State.setPresence (present : Bool) (s : State) : State :=
  if present = (s.station .c).present then s
  else if present then s.makePresent .c else s.makeAbsent .c

/-- R44: LOAD SITE. -/
def State.loadSite (p : Station) (tag cPresent strokeWidth : Byte) (holdLimit : Half)
    (muteTimeout : Byte) (s : State) : State :=
  if s.driveJob.isSome then s.reply p .loadSite tag .busy []
  else if within 1 4 strokeWidth.toNat && within 1 600 holdLimit.toNat
      && within 1 60 muteTimeout.toNat then
    (({ s with site :=
        { strokeWidth := strokeWidth.toNat, holdLimit := holdLimit.toNat,
          muteTimeout := muteTimeout.toNat } }).setPresence (flagOf cPresent)).reply p .loadSite tag
      .ok []
  else s.reply p .loadSite tag .badValue []

def execLoadSite (p : Station) (tag cPresent strokeWidth : Byte) (holdLimit : Half)
    (muteTimeout : Byte) (s : State) : Host.Outcome State Fault Refusal :=
  .next (s.command p .loadSite tag (.loadSite p tag cPresent strokeWidth holdLimit muteTimeout)
    (State.inConfig p .loadSite tag (State.loadSite p tag cPresent strokeWidth holdLimit muteTimeout)))

/-! ## LOAD STATION (R45) -/

/-- R45: the seven parameters lie in their ranges of Table 2.4. -/
def stationParametersOk (coldThreshold : Byte) (coldDwell reportTimeout rampStep : Half)
    (monitorTimeout escalate deescalate : Byte) : Bool :=
  within 0 100 coldThreshold.toNat && within 0 5000 coldDwell.toNat
  && within 100 5000 reportTimeout.toNat && within 1 1000 rampStep.toNat
  && within 1 60 monitorTimeout.toNat && within 1 8 escalate.toNat && within 1 15 deescalate.toNat

/-- R45: LOAD STATION. -/
def State.loadStation (p : Station) (tag station coldThreshold : Byte)
    (coldDwell reportTimeout rampStep : Half) (monitorTimeout escalate deescalate : Byte)
    (s : State) : State :=
  match stationOf? station with
  | none => s.reply p .loadStation tag .badValue []
  | some st =>
    if stationParametersOk coldThreshold coldDwell reportTimeout rampStep monitorTimeout escalate
        deescalate then
      (s.modStation st (fun r => { r with
        coldThreshold := coldThreshold.toNat
        coldDwell := coldDwell.toNat
        reportTimeout := reportTimeout.toNat
        rampStep := rampStep.toNat
        monitorTimeout := monitorTimeout.toNat
        escalate := escalate.toNat
        deescalate := deescalate.toNat })).reply p .loadStation tag .ok []
    else s.reply p .loadStation tag .badValue []

def execLoadStation (p : Station) (tag station coldThreshold : Byte)
    (coldDwell reportTimeout rampStep : Half) (monitorTimeout escalate deescalate : Byte)
    (s : State) : Host.Outcome State Fault Refusal :=
  .next (s.command p .loadStation tag
    (.loadStation p tag station coldThreshold coldDwell reportTimeout rampStep monitorTimeout
      escalate deescalate)
    (State.inConfig p .loadStation tag
      (State.loadStation p tag station coldThreshold coldDwell reportTimeout rampStep
        monitorTimeout escalate deescalate)))

/-! ## LOAD MAP (R46, R4) -/

/-- R4: one map entry is applied. A contactor that becomes used is derived afresh, or at scan ready
when that has not yet come (R18). -/
def State.applyMapEntry (k : Nat) (m : MapEntry) (s : State) : State :=
  let wasUsed := (s.contactor k).used
  let s' := s.modContactor k (fun c => { c with map := m })
  if !wasUsed && !m.owners.isEmpty && s.scanReady then s'.derive k else s'

/-- R4: the entries of a record, in ascending contactor order. -/
def State.applyMap : Nat → List MapEntry → State → State
  | _, [], s => s
  | k, m :: rest, s => (s.applyMapEntry k m).applyMap (k + 1) rest

/-- R4: a contactor of the range travels. -/
def State.rangeTravels (s : State) (first count : Nat) : Bool :=
  (List.range count).any (fun i =>
    match (s.contactor (first + i)).state with
    | .travel _ => true
    | _ => false)

/-- R46: LOAD MAP. -/
def State.loadMap (p : Station) (tag first count : Byte) (entries : List RawMapEntry) (s : State) :
    State :=
  if 95 < first.toNat || !within 1 96 count.toNat || 96 < first.toNat + count.toNat then
    s.reply p .loadMap tag .badValue absent1
  else match mapEntriesFrom first.toNat entries with
    | .error k => s.reply p .loadMap tag .badValue (byte1 k)
    | .ok ms =>
      if s.driveJob.isSome || s.rangeTravels first.toNat count.toNat then
        s.reply p .loadMap tag .busy []
      else (s.applyMap first.toNat ms).reply p .loadMap tag .ok []

def execLoadMap (p : Station) (tag first count : Byte) (entries : List RawMapEntry) (s : State) :
    Host.Outcome State Fault Refusal :=
  .next (s.countedCommand p .loadMap tag (.loadMap p tag first count entries)
    (entries.length == count.toNat)
    (State.inConfig p .loadMap tag (State.loadMap p tag first count entries)))

/-! ## LOAD PATTERN (R22 to R24) -/

/-- R24: the position map a LOADED slot keeps, and the all-FREE map of an EMPTY one. -/
def State.keptPositions (s : State) (st : Station) (n : Fin 4) : List (Option Pos) :=
  match s.slot st n with
  | none => freeMap
  | some q => q.positions

/-- R22, R24: LOAD PATTERN. -/
def State.loadPattern (p : Station) (tag n : Byte) (towers : List RawTower) (hdr : RawHeader)
    (st : Station) (slot : Fin 4) (s : State) : State :=
  if headerOk n towers hdr then
    (s.setSlot st slot (some (patternOf towers hdr (s.keptPositions st slot)))).reply p .loadPattern
      tag .ok []
  else s.reply p .loadPattern tag .badValue []

def execLoadPattern (p : Station) (tag station slot n : Byte) (towers : List RawTower)
    (hdr : RawHeader) (s : State) : Host.Outcome State Fault Refusal :=
  .next (s.countedCommand p .loadPattern tag (.loadPattern p tag station slot n towers hdr)
    (towers.length == n.toNat)
    (State.inConfig p .loadPattern tag (State.withSlot p .loadPattern tag station slot []
      (State.loadPattern p tag n towers hdr))))

/-! ## LOAD POSITIONS (R25, R26) -/

/-- R25, R26: an entry that may not stand: a value other than A, B or FREE, or a non-FREE entry on a
contactor whose owner set does not include the station. -/
def State.entryFails (s : State) (st : Station) (e : Nat × Byte) : Bool :=
  match positionOf? e.2 with
  | none => true
  | some none => false
  | some (some _) => !(s.contactor e.1).map.owners.has st

/-- R26: the entries written into a position map. -/
def writePositions (entries : List (Nat × Byte)) (positions : List (Option Pos)) :
    List (Option Pos) :=
  entries.foldl (fun m e => m.set e.1 ((positionOf? e.2).getD none)) positions

/-- R26: LOAD POSITIONS. -/
def State.loadPositions (p : Station) (tag : Byte) (banks : Half) (positions : List Byte)
    (st : Station) (slot : Fin 4) (s : State) : State :=
  match s.slot st slot with
  | none => s.reply p .loadPositions tag .noPattern []
  | some q =>
    if (banksOf banks).isEmpty then s.reply p .loadPositions tag .noChange []
    else match (bankEntries banks positions).find? (s.entryFails st) with
      | some e => s.reply p .loadPositions tag .badValue (byte1 e.1)
      | none =>
        (s.setSlot st slot (some { q with
          positions := writePositions (bankEntries banks positions) q.positions })).reply p
          .loadPositions tag .ok []

def execLoadPositions (p : Station) (tag station slot : Byte) (banks : Half) (positions : List Byte)
    (s : State) : Host.Outcome State Fault Refusal :=
  .next (s.countedCommand p .loadPositions tag (.loadPositions p tag station slot banks positions)
    (positions.length == 8 * (banksOf banks).length)
    (State.inConfig p .loadPositions tag (State.withSlot p .loadPositions tag station slot absent1
      (State.loadPositions p tag banks positions))))

/-! ## CLEAR SLOT (R27) -/

/-- R27: CLEAR SLOT. -/
def State.clearSlot (p : Station) (tag : Byte) (st : Station) (slot : Fin 4) (s : State) : State :=
  match s.slot st slot with
  | none => s.reply p .clearSlot tag .noChange []
  | some _ => (s.setSlot st slot none).reply p .clearSlot tag .ok []

def execClearSlot (p : Station) (tag station slot : Byte) (s : State) :
    Host.Outcome State Fault Refusal :=
  .next (s.command p .clearSlot tag (.clearSlot p tag station slot)
    (State.inConfig p .clearSlot tag (State.withSlot p .clearSlot tag station slot []
      (State.clearSlot p tag))))

/-! ## DRIVE (R47, R48) -/

/-- R48: a contactor in the job: used, with an entry of A or B, and not AT it. -/
def State.driveMove (s : State) (e : Nat × Byte) : Option Move :=
  match positionOf? e.2 with
  | some (some x) =>
    if (s.contactor e.1).used && (s.contactor e.1).state != .at x then some ⟨e.1, x⟩ else none
  | _ => none

/-- R48: a job contactor in CONFLICT is counted failed at once. -/
def State.inConflict (s : State) (m : Move) : Bool := (s.contactor m.contactor).state == .conflict

/-- R48: the drive job formed from the entries of the enabled banks. -/
def State.formDrive (p : Station) (entries : List (Nat × Byte)) (s : State) : DriveJob :=
  let job := entries.filterMap s.driveMove
  let moves := s.byStage (job.filter (fun m => !s.inConflict m))
  { port := p, job := job, moves := moves, arrived := 0, failed := job.countP s.inConflict,
    notDriven := 0, strokes := [], waiting := moves,
    holdStart := if s.hold then some s.time else none, hotStart := none, closed := none }

/-- R47: DRIVE. The reply is made before the job's first start (log entry 8). -/
def State.drive (p : Station) (tag : Byte) (banks : Half) (positions : List Byte) (s : State) :
    State :=
  if positions.any (fun b => (positionOf? b).isNone) then s.reply p .drive tag .badValue []
  else if s.driveJob.isSome || !s.scanReady then s.reply p .drive tag .busy []
  else if (banksOf banks).isEmpty then s.reply p .drive tag .noChange []
  else if allStations.any (fun st => (s.station st).present && (s.permit st).cold != .cold) then
    s.reply p .drive tag .notCold []
  else
    let j := s.formDrive p (bankEntries banks positions)
    (({ s with engine := .drive j }).reply p .drive tag .ok
      (byte1 j.moves.length ++ byte1 j.failed)).stepDrive

def execDrive (p : Station) (tag : Byte) (banks : Half) (positions : List Byte) (s : State) :
    Host.Outcome State Fault Refusal :=
  .next (s.countedCommand p .drive tag (.drive p tag banks positions)
    (positions.length == 8 * (banksOf banks).length)
    (State.inConfig p .drive tag (State.drive p tag banks positions)))

/-! ## LOCK (R52, R53) -/

/-- Why a LOCK is refused INVALID (R52, Table 11.4). -/
inductive LockFlaw where
  | noSlot (st : Station)
  | absentOwner (k : Nat) (st : Station)
  | unownedEntry (st : Station) (slot : Fin 4) (k : Nat)
deriving DecidableEq, Repr

/-- The four reply fields of a flaw: reason, station, slot and contactor. -/
def LockFlaw.fields : LockFlaw → List Byte
  | .noSlot st => byte1 1 ++ byte1 (codeStation st) ++ absent1 ++ absent1
  | .absentOwner k st => byte1 2 ++ byte1 (codeStation st) ++ absent1 ++ byte1 k
  | .unownedEntry st n k => byte1 3 ++ byte1 (codeStation st) ++ byte1 n.val ++ byte1 k

/-- R52 case 3: a present station without a LOADED slot. -/
def State.noSlotFlaw (s : State) : Option LockFlaw :=
  (allStations.find? (fun st =>
    (s.station st).present && (s.slots.get st).all Option.isNone)).map LockFlaw.noSlot

/-- R52 case 4: a used contactor whose owner set names a station that is not present. -/
def State.absentOwnerFlaw (s : State) : Option LockFlaw :=
  (List.range Config.contactors).findSome? (fun k =>
    ((s.contactor k).map.owners.members.find? (fun st => !(s.station st).present)).map
      (LockFlaw.absentOwner k))

/-- R52 case 5: a non-FREE entry of a LOADED slot of a present station on a contactor the station
does not own. -/
def State.unownedFlaw (s : State) : Option LockFlaw :=
  (allStations.filter (fun st => (s.station st).present)).findSome? (fun st =>
    ([0, 1, 2, 3] : List (Fin 4)).findSome? (fun n =>
      (s.slot st n).bind (fun p =>
        ((List.range Config.contactors).find? (fun k =>
          (p.positions.getD k none).isSome && !(s.contactor k).map.owners.has st)).map
            (LockFlaw.unownedEntry st n))))

/-- R52 cases 3 to 5, in their order. -/
def State.lockFlaw (s : State) : Option LockFlaw :=
  (s.noSlotFlaw.orElse (fun _ => s.absentOwnerFlaw)).orElse (fun _ => s.unownedFlaw)

/-- R53: the device enters RUN. -/
def State.enterRun (s : State) : State :=
  ((({ s with mode := .run }).recogniseAll).recomputeAll allStations).arbiter

/-- R52: LOCK. -/
def State.lock (p : Station) (tag : Byte) (s : State) : State :=
  if s.driveJob.isSome || !s.scanReady then s.reply p .lock tag .busy []
  else match s.lockFlaw with
    | some flaw => s.reply p .lock tag .invalid flaw.fields
    | none => s.enterRun.reply p .lock tag .ok []

def execLock (p : Station) (tag : Byte) (s : State) : Host.Outcome State Fault Refusal :=
  .next (s.command p .lock tag (.lock p tag) (State.inConfig p .lock tag (State.lock p tag)))

end Sys2Proof.Machine
end

