-- ==== Sys2Proof/Machine/Reads.lean ====
section
/-! DEFINITION. STATUS and the reads (R19, R28, R73, R125, R140, R150, R164). Each reports what
stands when it is executed. -/

namespace Sys2Proof.Machine

/-- R164: STATUS. -/
def State.status (p : Station) (tag : Byte) (s : State) : State :=
  s.reply p .status tag .ok (s.statusFields p)

def execStatus (p : Station) (tag : Byte) (s : State) : Host.Outcome State Fault Refusal :=
  .next (s.command p .status tag (.status p tag) (State.status p tag))

/-- R19, R168: READ CONTACTORS. -/
def State.readContactors (p : Station) (tag first count : Byte) (s : State) : State :=
  if within 1 Config.readContactorsMax count.toNat && decide (first.toNat + count.toNat ≤ 96) then
    s.reply p .readContactors tag .ok (s.contactorsFields first.toNat count.toNat)
  else s.reply p .readContactors tag .badValue []

def execReadContactors (p : Station) (tag first count : Byte) (s : State) :
    Host.Outcome State Fault Refusal :=
  .next (s.command p .readContactors tag (.readContactors p tag first count)
    (State.readContactors p tag first count))

/-- R28: READ PATTERN. -/
def State.readPattern (p : Station) (tag : Byte) (st : Station) (n : Fin 4) (s : State) : State :=
  s.reply p .readPattern tag .ok (s.patternFields st n)

def execReadPattern (p : Station) (tag station slot : Byte) (s : State) :
    Host.Outcome State Fault Refusal :=
  .next (s.command p .readPattern tag (.readPattern p tag station slot)
    (State.withSlot p .readPattern tag station slot [] (State.readPattern p tag)))

/-- R125: READ TOWERS. -/
def State.readTowers (p : Station) (tag station : Byte) (s : State) : State :=
  match stationOf? station with
  | none => s.reply p .readTowers tag .badValue []
  | some st => s.reply p .readTowers tag .ok (s.towersFields st)

def execReadTowers (p : Station) (tag station : Byte) (s : State) :
    Host.Outcome State Fault Refusal :=
  .next (s.command p .readTowers tag (.readTowers p tag station)
    (State.readTowers p tag station))

/-- R73: READ QUEUE. -/
def State.readQueue (p : Station) (tag : Byte) (s : State) : State :=
  s.reply p .readQueue tag .ok s.queueFields

def execReadQueue (p : Station) (tag : Byte) (s : State) : Host.Outcome State Fault Refusal :=
  .next (s.command p .readQueue tag (.readQueue p tag) (State.readQueue p tag))

/-- R150: READ FAULTS. -/
def State.readFaults (p : Station) (tag : Byte) (s : State) : State :=
  s.reply p .readFaults tag .ok s.faultsFields

def execReadFaults (p : Station) (tag : Byte) (s : State) : Host.Outcome State Fault Refusal :=
  .next (s.command p .readFaults tag (.readFaults p tag) (State.readFaults p tag))

/-- R140: READ CLIP LOG. The reply of a present station may hold free values (log entry 4): it draws
seven, one for each cap. -/
def State.readClipLog (p : Station) (tag station : Byte) (s : State) : State :=
  match stationOf? station with
  | none => s.reply p .readClipLog tag .badValue []
  | some st =>
    ({ s with freeDraw := if (s.station st).present then s.freeDraw + 7 else s.freeDraw }).reply p
      .readClipLog tag .ok (s.clipLogFields st)

def execReadClipLog (p : Station) (tag station : Byte) (s : State) :
    Host.Outcome State Fault Refusal :=
  .next (s.command p .readClipLog tag (.readClipLog p tag station)
    (State.readClipLog p tag station))

end Sys2Proof.Machine
end

