-- ==== Sys2Proof/Machine/Dispatch.lean ====
section
/-! DEFINITION. The one place where a command meets its meaning: an arm for each row of the table. -/

namespace Sys2Proof.Machine

/-- The effect of a command on everything but the queue of waiting commands. -/
def exec (i : Instr) (s : State) : Host.Outcome State Fault Refusal :=
  match i with
  | .powerOnReset baudHigh => Sys2Proof.Machine.execPowerOnReset baudHigh s
  | .restart => Sys2Proof.Machine.execRestart s
  | .localAssert st => Sys2Proof.Machine.execLocalAssert st s
  | .localRelease st => Sys2Proof.Machine.execLocalRelease st s
  | .holdAssert => Sys2Proof.Machine.execHoldAssert s
  | .holdRelease => Sys2Proof.Machine.execHoldRelease s
  | .senseEvent k => Sys2Proof.Machine.execSenseEvent k s
  | .firstValueDeadline => Sys2Proof.Machine.execFirstValueDeadline s
  | .travelLimitExpiry k => Sys2Proof.Machine.execTravelLimitExpiry k s
  | .driveJobStartsClosed cause => Sys2Proof.Machine.execDriveJobStartsClosed cause s
  | .muteTimerExpiry => Sys2Proof.Machine.execMuteTimerExpiry s
  | .holdLimitReached => Sys2Proof.Machine.execHoldLimitReached s
  | .hotPauseLimitReached => Sys2Proof.Machine.execHotPauseLimitReached s
  | .settleTimerExpiry => Sys2Proof.Machine.execSettleTimerExpiry s
  | .proofTimerExpiry => Sys2Proof.Machine.execProofTimerExpiry s
  | .waitLimitExpiry id => Sys2Proof.Machine.execWaitLimitExpiry id s
  | .monitorTimerExpiry st => Sys2Proof.Machine.execMonitorTimerExpiry st s
  | .coldDwellExpiry st => Sys2Proof.Machine.execColdDwellExpiry st s
  | .reportTimeoutExpiry st => Sys2Proof.Machine.execReportTimeoutExpiry st s
  | .rampTick st => Sys2Proof.Machine.execRampTick st s
  | .portRecordReceived p body => Sys2Proof.Machine.execPortRecordReceived p body s
  | .sampleSet body => Sys2Proof.Machine.execSampleSet body s
  | .powerReport st body => Sys2Proof.Machine.execPowerReport st body s
  | .discardedRecord link cause => Sys2Proof.Machine.execDiscardedRecord link cause s
  | .interbyteTimeout link => Sys2Proof.Machine.execInterbyteTimeout link s
  | .transmitComplete p => Sys2Proof.Machine.execTransmitComplete p s
  | .permitTransmitComplete st => Sys2Proof.Machine.execPermitTransmitComplete st s
  | .loadSite p tag cPresent strokeWidth holdLimit muteTimeout => Sys2Proof.Machine.execLoadSite p tag cPresent strokeWidth holdLimit muteTimeout s
  | .loadStation p tag station coldThreshold coldDwell reportTimeout rampStep monitorTimeout escalate deescalate => Sys2Proof.Machine.execLoadStation p tag station coldThreshold coldDwell reportTimeout rampStep monitorTimeout escalate deescalate s
  | .loadMap p tag first count entries => Sys2Proof.Machine.execLoadMap p tag first count entries s
  | .loadPattern p tag station slot n towers hdr => Sys2Proof.Machine.execLoadPattern p tag station slot n towers hdr s
  | .loadPositions p tag station slot banks positions => Sys2Proof.Machine.execLoadPositions p tag station slot banks positions s
  | .clearSlot p tag station slot => Sys2Proof.Machine.execClearSlot p tag station slot s
  | .drive p tag banks positions => Sys2Proof.Machine.execDrive p tag banks positions s
  | .lock p tag => Sys2Proof.Machine.execLock p tag s
  | .request p tag slot allowCollateral waitLimit => Sys2Proof.Machine.execRequest p tag slot allowCollateral waitLimit s
  | .cancel p tag id => Sys2Proof.Machine.execCancel p tag id s
  | .consent p tag value => Sys2Proof.Machine.execConsent p tag value s
  | .limit p tag value => Sys2Proof.Machine.execLimit p tag value s
  | .sync p tag => Sys2Proof.Machine.execSync p tag s
  | .status p tag => Sys2Proof.Machine.execStatus p tag s
  | .readContactors p tag first count => Sys2Proof.Machine.execReadContactors p tag first count s
  | .readPattern p tag station slot => Sys2Proof.Machine.execReadPattern p tag station slot s
  | .readTowers p tag station => Sys2Proof.Machine.execReadTowers p tag station s
  | .readQueue p tag => Sys2Proof.Machine.execReadQueue p tag s
  | .readFaults p tag => Sys2Proof.Machine.execReadFaults p tag s
  | .readClipLog p tag station => Sys2Proof.Machine.execReadClipLog p tag station s
  | .clearClipLog p tag mask => Sys2Proof.Machine.execClearClipLog p tag mask s
  | .clearFault p tag index => Sys2Proof.Machine.execClearFault p tag index s
  | .resume p tag => Sys2Proof.Machine.execResume p tag s
  | .reclaim p tag => Sys2Proof.Machine.execReclaim p tag s
  | .illegal p body => Sys2Proof.Machine.execIllegal p body s
  | .rawSenseChange k value => Sys2Proof.Machine.execRawSenseChange k value s
  | .startByte link => Sys2Proof.Machine.execStartByte link s
  | .porAsserted => Sys2Proof.Machine.execPorAsserted s
  | .restartLineRelease => Sys2Proof.Machine.execRestartLineRelease s

end Sys2Proof.Machine
end

