-- ==== Sys2Proof/Safety.lean ====
section
/-! DEFINITION. The terms in which statements about the part are made: when a command is executed at
its port, and what holds of every state the part can be in, block by block. A run is safe when each
of these properties holds of every state of it. -/

namespace Sys2Proof

/-- The commands that set the level of a line or of a sense input. A part that POR holds takes these
and no other. -/
def Instr.isLineEvent : Instr → Bool
  | .powerOnReset _ => true
  | .porAsserted => true
  | .restart => true
  | .restartLineRelease => true
  | .localAssert _ => true
  | .localRelease _ => true
  | .holdAssert => true
  | .holdRelease => true
  | .rawSenseChange _ _ => true
  | _ => false

namespace Machine

/-! ## When a command is executed -/

/-- The command begins at once on its port, which is OPEN (R155, R156). -/
def State.takes (s : State) (p : Station) (i : Instr) : Prop :=
  s.begins p (recordBody i) = true ∧ (s.port p).state = .isOpen

/-- No report of contactor `k` reaches a job: the engine is free, or the job in it does not list `k`
among its travelling contactors (R16). -/
def State.untold (s : State) (k : Nat) : Prop :=
  (∀ r f, s.flying = some (r, f) → f.strokes.contains k = false)
  ∧ (∀ j, s.engine = .drive j → j.strokes.contains k = false)

/-- The record `r` is the only one in the Transition Queue, and the engine holds it with `f`. -/
def State.fliesAlone (s : State) (r : TRecord) (f : Flight) : Prop :=
  s.queue = [r] ∧ s.engine = .transition r.id ∧ r.flight = some f

/-- The travelling contactors of a list of contactor numbers less one. -/
def without (k : Nat) (ks : List Nat) : List Nat := ks.filter (fun i => i != k)

/-! ## Tables of the manual in which outcomes are stated -/

/-- R9 to R11: the state in which a sense event with this debounced value leaves a used contactor. -/
def stateAfterSense : CState → Sense → CState
  | .travel y, .pos x => if x = y then .at y else .travel y
  | .travel y, .none => .travel y
  | .travel _, .both => .conflict
  | _, .pos x => .at x
  | _, .none => .lost
  | _, .both => .conflict

/-- R9 to R11, R17: the fault such a sense event raises; none where the state already shows the value
(log entry 28). -/
def faultOfSense : CState → Sense → Option FaultKind
  | .at x, .pos y => if y = x then none else some .uncommanded
  | .at _, .none => some .lost
  | .at _, .both => some .conflict
  | .travel _, .both => some .conflict
  | .travel _, _ => none
  | .stuck, .none => some .lost
  | .conflict, .none => some .lost
  | .stuck, .both => some .conflict
  | .lost, .both => some .conflict
  | _, _ => none

/-- Table 1.4: the fault that the derivation of a used contactor raises. -/
def faultOfDerivation : Sense → Option FaultKind
  | .pos _ => none
  | .none => some .lost
  | .both => some .conflict

/-- R6, R8 to R11, R13: a used contactor after the sense event that takes its raw value. -/
def Contactor.sensed (c : Contactor) : Contactor :=
  let g := stateAfterSense c.state c.raw
  { c with
    debounced := some c.raw
    debounceExpiry := none
    state := g
    commanded := match g with
      | .at x => x
      | _ => c.commanded
    coil := match g with
      | .travel y => .on y
      | _ => .off
    driveStart := match g with
      | .travel _ => c.driveStart
      | _ => none
    travelExpiry := match g with
      | .travel _ => c.travelExpiry
      | _ => none }

/-- R15: a contactor that a failed travel leaves in a state. -/
def Contactor.failedTo (g : CState) (c : Contactor) : Contactor :=
  { c with state := g, coil := .off, driveStart := none, travelExpiry := none }

/-- R15: the state and the fault of a travel toward `y` whose limit expires while the contactor shows
`v`, where the rule gives them. -/
def limitGives (y : Pos) (v : Sense) (g : CState) (kind : FaultKind) : Prop :=
  (∃ x, v = .pos x ∧ x ≠ y ∧ g = .stuck ∧ kind = .stuck) ∨ (v = .none ∧ g = .lost ∧ kind = .lost)

/-- Table 8.1: the cold state after a reading. -/
def coldAfterReading (hot dwellZero : Bool) : Cold → Cold
  | .unknown => if hot then .hot else if dwellZero then .cold else .cooling
  | .hot => if hot then .hot else if dwellZero then .cold else .cooling
  | .cooling => if hot then .hot else .cooling
  | .cold => if hot then .hot else .cold

/-- R144 to R146: the Fault List after a fault, or as it was when there is none. -/
def State.faultsAfter (s : State) (now : Nat) (source : FaultSource) (kind : Option FaultKind) :
    FaultList :=
  match kind with
  | none => s.faults
  | some k => (s.faults.take (seconds now) source k).1

/-- Nothing of the part differs between the two but the contactors, the time base, the permits with
their links, the Fault List, the station ports and the count of free values. -/
def State.sameButArray (s t : State) : Prop :=
  t = { s with
    contactors := t.contactors, time := t.time, permits := t.permits,
    transmitters := t.transmitters, faults := t.faults, ports := t.ports, freeDraw := t.freeDraw }

/-- R20, R133: a station whose answer to "all satisfied" has not changed keeps its permit and its link,
and a present one whose requirements have ceased to be satisfied stands at output 0. -/
def State.permitsFollow (s t : State) : Prop :=
  ∀ st, (t.currentSatisfied st = s.currentSatisfied st →
      t.permit st = s.permit st ∧ t.transmitter st = s.transmitter st)
    ∧ ((s.station st).present = true → t.currentSatisfied st = false →
        s.currentSatisfied st = true → (t.permit st).output = 0)

/-! ## What the parts of an event leave -/

/-- R7, R18: the part at scan ready, when `v` are the debounced values: every entry is derived by
Table 1.4 from its value, and nothing else changes but the permits with their links, and the Fault
List with its notices. The list takes the fault of the derivation, said here for one used
contactor. -/
def State.derivedFrom (s t : State) (now : Nat) (v : Nat → Sense) : Prop :=
  t = { s with
    time := now, scanReady := true, firstValueExpiry := none, contactors := t.contactors
    permits := t.permits, transmitters := t.transmitters, faults := t.faults, ports := t.ports }
  ∧ (∀ k < 96, (t.contactor k).debounced = some (v k)
      ∧ (t.contactor k).state = derivedState (v k)
      ∧ (t.contactor k).commanded = derivedCommanded (v k)
      ∧ (t.contactor k).coil = .off ∧ (t.contactor k).driveStart = none
      ∧ (t.contactor k).map = (s.contactor k).map)
  ∧ ((∀ c ∈ s.contactors, c.used = false) → t.faults = s.faults ∧ t.ports = s.ports)
  ∧ ∀ k < 96, (s.contactor k).used = true →
      (∀ j < 96, j ≠ k → (s.contactor j).used = false) →
      t.faults = s.faultsAfter now (.contactor k) (faultOfDerivation (v k))

/-- R78, R123: the monitor timer of a station restarts when a mute that held it is released while it
is STEADY; otherwise its conformance is as it was. -/
def State.monitorRestarted (s t : State) (f : Flight) (q : Station) : Prop :=
  t.conf q = if f.muteSet.has q && (s.station q).state.isSteady then
      { s.conf q with monitorExpiry := some (t.time + 1000 * (s.station q).monitorTimeout) }
    else s.conf q

/-- R131 to R134: the caps of a present station have been formed anew, its target is the least of those
that apply, and its output does not rise; the permit of a station that is not present is as it was. -/
def State.recomputedAs (s t : State) (q : Station) : Prop :=
  ((s.station q).present = true →
    (t.permit q).caps = t.formCaps q ∧ (t.permit q).target = (t.permit q).caps.target
    ∧ (t.permit q).output = min (t.permit q).target (s.permit q).output)
  ∧ ((s.station q).present = false → t.permit q = s.permit q)

/-- R78: the release of the mute of record `r`, whose grant wrote `f`: the caps of each present
station of the mute set are formed anew without the MUTE cap, its target is the least of those that
apply and its output does not rise; the monitor timer of each STEADY one restarts; and each
collateral port has the COLLATERAL "released" notice. The port and the conformance of the requester,
which is in no collateral set (R70), are for the event to say. -/
def State.muteReleased (s t : State) (r : TRecord) (f : Flight) : Prop :=
  (∀ q, t.muteHolds q = false)
  ∧ (∀ q, f.muteSet.has q = true → (s.station q).present = true →
      (t.permit q).caps = t.formCaps q ∧ (t.permit q).caps.mute = ⟨false, some 0⟩
      ∧ (t.permit q).target = (t.permit q).caps.target
      ∧ (t.permit q).output = min (t.permit q).target (s.permit q).output)
  ∧ (∀ q, f.muteSet.has q = false → t.permit q = s.permit q)
  ∧ ∀ q, q ≠ r.station →
      (t.port q = if f.collateral.has q then Port.handed (.collateral r.id true) (s.port q)
        else s.port q)
      ∧ s.monitorRestarted t f q

/-- R96, R98, R78, R101: `t` is the part once the settle time of the record `r` has run out, where `s` is
what the event has left before, `f` what the grant wrote and `g` what the engine keeps now: the
requester is PROVING in the target slot, `p`, with its tower records formed and STATION STATE on its
port, the mute is released, and the proof timer runs with the proof run at 0. -/
def State.provesAfterSettle (s t : State) (r : TRecord) (f g : Flight) (p : Pattern) : Prop :=
  t = { s with
    queue := t.queue, stations := t.stations, conformance := t.conformance
    permits := t.permits, transmitters := t.transmitters, ports := t.ports }
  ∧ t.queue = [{ r with
      stage := .proving
      flight := some { g with
        settleExpiry := none, mutePlaced := false, proofRun := 0
        proofExpiry := some (s.time + 1000 * p.proofTimeout) } }]
  ∧ t.station r.station = { s.station r.station with state := .proving r.target }
  ∧ (∀ q, q ≠ r.station → t.station q = s.station q)
  ∧ t.conf r.station = ⟨p.towers.map (fun l => TowerRecord.formed l.tower), none, false⟩
  ∧ s.muteReleased t r f
  ∧ (f.collateral.has r.station = false → (s.station r.station).present = true →
      (s.station r.station).state ≠ .proving r.target →
      t.port r.station = Port.handed (.stationState (.proving r.target)) (s.port r.station))

/-- R93, R78: `t` is the part once the record `r`, alone in its queue with these arrivals, has ended
from ABORTING with result `x`, where `s` is what the event has left before. With arrivals 1 or more the
requester is MIXED with no conformance records, else as it was with its monitor timer restarted; the
mute is released; and TRANSITION ENDED stands on the requester's port, behind STATION STATE where its
state has changed (log entry 24). -/
def State.abortEnds (s t : State) (r : TRecord) (f : Flight) (arrivals : Nat) (x : TResult) : Prop :=
  t = { s with
    queue := [], engine := .free, stations := t.stations, conformance := t.conformance
    permits := t.permits, transmitters := t.transmitters, ports := t.ports }
  ∧ (∀ q, t.station q = if arrivals ≠ 0 ∧ q = r.station then { s.station q with state := .mixed }
      else s.station q)
  ∧ (arrivals = 0 → s.monitorRestarted t f r.station)
  ∧ (arrivals ≠ 0 → t.conf r.station = ⟨[], none, false⟩)
  ∧ s.muteReleased t r f
  ∧ (f.collateral.has r.station = false → (s.port r.station).executing = none →
      t.port r.station = Port.handed (.transitionEnded r.id x)
        (if arrivals ≠ 0 ∧ (s.station r.station).present = true
            ∧ (s.station r.station).state ≠ .mixed then
          Port.handed (.stationState .mixed) (s.port r.station)
        else s.port r.station))

/-- R84, R85, R49, R14: `m` is the one start there is to order, for a job with these contactors
travelling and these waiting. It is first of the waiting list, no contactor of a lower stage waits or
travels, it takes the last free stroke or waits alone, and its contactor can begin a travel. -/
def State.nextOf (s : State) (strokes : List Nat) (waiting : List Move) (m : Move) : Prop :=
  (∃ rest, waiting = m :: rest
    ∧ (strokes.length + 1 = s.site.strokeWidth
      ∨ strokes.length < s.site.strokeWidth ∧ rest = []))
  ∧ (∀ n ∈ waiting, (s.contactor m.contactor).map.stage ≤ (s.contactor n.contactor).map.stage)
  ∧ (∀ k ∈ strokes, (s.contactor m.contactor).map.stage ≤ (s.contactor k).map.stage)
  ∧ s.scanReady = true ∧ (s.contactor m.contactor).used = true
  ∧ (s.contactor m.contactor).state ≠ .at m.target ∧ (s.contactor m.contactor).state ≠ .conflict
  ∧ ∀ y, (s.contactor m.contactor).state ≠ .travel y

/-- The same for a record, where every station exposed at the contactor is in the mute set, at
output 0. -/
def State.nextAlone (s : State) (f : Flight) (m : Move) : Prop :=
  s.nextOf f.strokes f.waiting m
  ∧ ∀ q, s.exposed q m.contactor = true → f.muteSet.has q = true ∧ (s.permit q).output = 0

/-- Every present station is COLD, at output 0. -/
def State.allSilent (s : State) : Prop :=
  ∀ st, (s.station st).present = true → (s.permit st).cold = .cold ∧ (s.permit st).output = 0

/-- R14: a contactor whose drive toward `y` starts at the moment `now`. -/
def Contactor.startedAt (now : Nat) (y : Pos) (c : Contactor) : Contactor :=
  { c with
    state := .travel y, coil := .on y, commanded := y, driveStart := some now
    travelExpiry := some (now + c.map.travelLimit) }

/-- The part at the moment `now` with the record `r` alone in its queue, for which the engine keeps
`f`: nothing else differs but the contactors and the permits with their links. -/
def State.carries (s t : State) (now : Nat) (r : TRecord) (f : Flight) : Prop :=
  t = { s with
    time := now, queue := [{ r with flight := some f }], contactors := t.contactors
    permits := t.permits, transmitters := t.transmitters }

/-- R84, R14: the same once `m` has started, which joins the stroke list and leaves the waiting list;
every other contactor is as it was. -/
def State.startsMove (s t : State) (now : Nat) (r : TRecord) (f : Flight) (m : Move) : Prop :=
  s.carries t now r { f with
    strokes := f.strokes ++ [m.contactor]
    waiting := f.waiting.filter (fun n => n.contactor != m.contactor) }
  ∧ t.contactor m.contactor = (s.contactor m.contactor).startedAt now m.target
  ∧ ∀ j, j ≠ m.contactor → t.contactor j = s.contactor j

/-- R51: the drive job is not at its end: a contactor travels, or one waits and the starts are
open. -/
def DriveJob.goesOn (j : DriveJob) : Prop := j.strokes ≠ [] ∨ (j.waiting ≠ [] ∧ j.closed = none)

/-- R49, R14: the part at the moment `now` with the drive job `j` in the engine, once `m` has started:
nothing else differs but the permits with their links. -/
def State.drivesMove (s t : State) (now : Nat) (j : DriveJob) (m : Move) : Prop :=
  t = { s with
    time := now
    engine := .drive { j with
      strokes := j.strokes ++ [m.contactor]
      waiting := j.waiting.filter (fun n => n.contactor != m.contactor) }
    contactors := t.contactors, permits := t.permits, transmitters := t.transmitters }
  ∧ t.contactor m.contactor = (s.contactor m.contactor).startedAt now m.target
  ∧ ∀ i, i ≠ m.contactor → t.contactor i = s.contactor i

/-! ## The cases of the arbiter (R71) -/

/-- R69, R71: the combination of a record is compatible, and no contactor of its move set stands in
CONFLICT. -/
def State.admits (s : State) (r : TRecord) : Prop :=
  let c := s.combination r.station r.target
  compatible c = true ∧ ∀ m ∈ s.moveSet c, (s.contactor m.contactor).state ≠ .conflict

/-- R69: the move set of a record as the part stands. -/
def State.movesOf (s : State) (r : TRecord) : List Move :=
  s.moveSet (s.combination r.station r.target)

/-- R70: its mute set. -/
def State.muteOf (s : State) (r : TRecord) : StationSet := s.muteSetOf r.station (s.movesOf r)

/-- R70: its collateral set. -/
def State.sharersOf (s : State) (r : TRecord) : StationSet := s.collateralOf r.station (s.muteOf r)

/-- R71, cases 1 to 3: an examination ends the record with result `x`. -/
def State.endsAs (s : State) (r : TRecord) (x : TResult) : Prop :=
  (x = .conflict ∧ compatible (s.combination r.station r.target) = false)
  ∨ (x = .failedContactor ∧ compatible (s.combination r.station r.target) = true
      ∧ ∃ m ∈ s.movesOf r, (s.contactor m.contactor).state = .conflict)
  ∨ (x = .needsCollateral ∧ s.admits r ∧ (s.sharersOf r).isEmpty = false
      ∧ r.allowCollateral = false)

/-- R71, case 4: an examination leaves the record waiting for consent. -/
def State.parks (s : State) (r : TRecord) : Prop :=
  s.admits r ∧ r.allowCollateral = true
  ∧ ∃ q, (s.sharersOf r).has q = true ∧ (s.station q).consent = .deny

/-- R71, case 5: an examination grants the record, which goes to PROVING or stays in MUTING, since a
station of its mute set is not COLD. -/
def State.grantStays (s : State) (r : TRecord) : Prop :=
  s.admits r ∧ ((s.sharersOf r).isEmpty = true ∨ r.allowCollateral = true)
  ∧ (∀ q, (s.sharersOf r).has q = true → (s.station q).consent = .allow)
  ∧ (s.movesOf r = [] ∨ ∃ q, (s.muteOf r).has q = true ∧ (s.permit q).cold ≠ .cold)

/-- R72, R74: the engine holds the record granted, and these are the records of the queue before and
behind it. -/
def State.holdsGrant (s t : State) (before : List TRecord) (r : TRecord) (behind : List TRecord) :
    Prop :=
  t.engine = .transition r.id
  ∧ ∃ f, t.queue = before ++ { r with
      stage := if s.movesOf r = [] then .proving else .muting
      waitingConsent := false, waitExpiry := none, flight := some f } :: behind
    ∧ f.moves = s.movesOf r

/-! ## The Permit Unit -/

/-- R138: the clip-cause log of every station contains every cause of its status. -/
def State.ClipLogHolds (s : State) : Prop :=
  ∀ st cause, (s.permit st).status.has cause = true → (s.permit st).log.has cause = true

/-- R132, R141: the output never exceeds the target, nor the target the local limit; a station that
is not present holds nothing. -/
def State.PermitsBounded (s : State) : Prop :=
  ∀ st, (s.permit st).output ≤ (s.permit st).target
    ∧ (s.permit st).target ≤ (s.station st).localLimit
    ∧ (s.station st).localLimit ≤ Config.fullScale
    ∧ ((s.station st).present = false → s.permit st = Permit.absent)

/-! ## The Fault List -/

/-- Table 9.1: a contactor source goes with the four contactor kinds, a station source with
LINK_SILENT. -/
def FaultRecord.paired (r : FaultRecord) : Prop :=
  match r.source with
  | .contactor k => k < Config.contactors ∧ r.kind ≠ .linkSilent
  | .station _ => r.kind = .linkSilent

/-- R142: at most 16 records, no two with the same source and kind, every count in 1 to 255. -/
def State.FaultListBounded (s : State) : Prop :=
  s.faults.records.length ≤ Config.faultListMax
  ∧ (s.faults.records.map (fun r => (r.source, r.kind))).Nodup
  ∧ (∀ r ∈ s.faults.records, 1 ≤ r.count ∧ r.count ≤ 255 ∧ r.paired)
  ∧ s.faults.dropped ≤ 255

/-! ## The links -/

/-- The bounds of one station port (R152, R154, R162). -/
def Port.Bounded (q : Port) : Prop :=
  q.queue.length ≤ Config.commandQueueMax
  ∧ (∀ body ∈ q.queue, bodyFits body = true)
  ∧ q.notices.length ≤ Config.noticeQueueMax
  ∧ q.overrun ≤ 255 ∧ q.lost ≤ 255 ∧ q.linkErrors ≤ 65535

/-- R110, R152, R154, R162: every queue and every count of the links is within its bound. -/
def State.LinksBounded (s : State) : Prop :=
  (∀ p, (s.port p).Bounded)
  ∧ (∀ st, (s.transmitter st).linkErrors ≤ 65535)
  ∧ s.monitor.linkErrors ≤ 65535
  ∧ (∀ st, s.monitor.invalidSets.get st ≤ 65535)

/-! ## The modes -/

/-- R40, R57: in CONFIG the Transition Queue is empty, the engine holds no transition, and every
station is NONE at target 0 and output 0. -/
def State.ConfigSilent (s : State) : Prop :=
  s.mode = .config →
    s.queue = [] ∧ (∀ id, s.engine ≠ .transition id)
    ∧ ∀ st, (s.station st).state = .none ∧ (s.permit st).target = 0 ∧ (s.permit st).output = 0

/-! ## Contactors -/

/-- R8, R10, R13, R15: one coil is energised while the contactor travels toward its position, with its
timer and its drive-start time, and none otherwise; a contactor at a position has it commanded. -/
def Contactor.CoilFollows (c : Contactor) : Prop :=
  match c.state with
  | .travel y => c.coil = .on y ∧ c.commanded = y ∧ c.driveStart.isSome ∧ c.travelExpiry.isSome
  | .at x => c.coil = .off ∧ c.commanded = x ∧ c.driveStart = none ∧ c.travelExpiry = none
  | .stuck => c.coil = .off ∧ c.driveStart = none ∧ c.travelExpiry = none
  | .lost => c.coil = .off ∧ c.driveStart = none ∧ c.travelExpiry = none
  | .conflict => c.coil = .off ∧ c.driveStart = none ∧ c.travelExpiry = none

/-- R1, R13, R18: there are 96 contactors, their coils follow their states, and before scan ready every
one is held in LOST with commanded position A. -/
def State.CoilsFollow (s : State) : Prop :=
  s.contactors.length = Config.contactors
  ∧ ∀ c ∈ s.contactors, c.CoilFollows
    ∧ (s.scanReady = false → c.state = .lost ∧ c.commanded = .a)

/-! ## The engine -/

/-- R75, R92: the counts and lists of a record in MOVING or ABORTING. -/
def Flight.Accounted (width : Nat) (f : Flight) : Prop :=
  (f.strokes ++ f.waiting.map Move.contactor).Nodup
  ∧ f.strokes.length ≤ width
  ∧ f.arrivals + f.failures + f.strokes.length + f.waiting.length = f.moves.length

/-- R75, R51: the counts and lists of a drive job. -/
def DriveJob.Accounted (width : Nat) (j : DriveJob) : Prop :=
  (j.strokes ++ j.waiting.map Move.contactor).Nodup
  ∧ j.strokes.length ≤ width
  ∧ j.arrived + j.failed + j.notDriven + j.strokes.length + j.waiting.length = j.job.length

/-- R51, R75, R92: no job has more contactors travelling than the stroke width, and every contactor of
a job is counted, travelling or waiting, once. -/
def State.JobsAccounted (s : State) : Prop :=
  (∀ r f, s.flying = some (r, f) →
    (f.moves.map Move.contactor).Nodup
    ∧ (r.stage = .moving ∨ r.stage = .aborting → f.Accounted s.site.strokeWidth))
  ∧ (∀ j, s.engine = .drive j → j.Accounted s.site.strokeWidth)
  ∧ (s.mode = .config → ∀ id, s.engine ≠ .transition id)

/-! ## The Transition Queue -/

/-- R55 to R57: ids are 1 to 255 and no two records have one; at most one record of a station is
QUEUED; every other record is the one the engine holds. -/
def State.QueueOrdered (s : State) : Prop :=
  (s.queue.map TRecord.id).Nodup
  ∧ (∀ r ∈ s.queue, 1 ≤ r.id ∧ r.id ≤ 255)
  ∧ (1 ≤ s.nextId ∧ s.nextId ≤ 255)
  ∧ ((s.queue.filter (fun r => r.stage == .queued)).map TRecord.station).Nodup
  ∧ (∀ r ∈ s.queue, r.flight.isSome = true ↔ r.stage ≠ .queued)
  ∧ (∀ r ∈ s.queue, r.stage ≠ .queued → s.engine = .transition r.id)
  ∧ (∀ id, s.engine = .transition id → ∃ r ∈ s.queue, r.id = id ∧ r.stage ≠ .queued)
  ∧ (s.mode = .config → s.queue = [] ∧ ∀ id, s.engine ≠ .transition id)

end Machine
end Sys2Proof
end

