-- ==== Sys2Proof/WellFormed.lean ====
section
/-! DEFINITION. Which commands are well formed: what the width of an operand does not already say.
A record's body has 2 to 250 bytes (Table 11.1); a counted field agrees with its count (R167); an
ILLEGAL record is one that spells no command; a transition id is 1 to 255 (Table 4.1). -/

namespace Sys2Proof

/-- The body of a station-port command fits its record. -/
def recordFits (i : Instr) : Bool :=
  match encodeRecord i with
  | some (_, body) => bodyFits body
  | none => true

/-- The check of a command, by constructor. -/
def wellFormed (i : Instr) : Bool :=
  recordFits i &&
  match i with
  | .waitLimitExpiry id => decide (1 ≤ id) && decide (id ≤ 255)
  | .portRecordReceived _ body => bodyFits body
  | .sampleSet body => bodyFits body
  | .powerReport _ body => bodyFits body
  | .loadMap _ _ _ count entries => entries.length == count.toNat
  | .loadPattern _ _ _ _ n towers _ => towers.length == n.toNat
  | .loadPositions _ _ _ _ banks positions => positions.length == 8 * (banksOf banks).length
  | .drive _ _ banks positions => positions.length == 8 * (banksOf banks).length
  | .illegal p body => (decodeCommand? p body).isNone
  | _ => true

end Sys2Proof
end

