-- ==== Sys2Proof/Certificates/Slice0/Obligations.lean ====
section
/-! DEFINITION. The statements about the part, for the provers. A docstring names the rules a
statement formalises; where a clause is the model's own choice it names the log entry. `takes` says
that a station-port command begins at once on a port that is OPEN; `s.begun p` is the state with the
record of that command off the queue, which leaves the port's receive assembler as it stands (log
entries 2 and 27); `State.reply` is the reply it makes. -/

open Sys2Proof Sys2Proof.Machine

/-! ## Steps -/

/-- A step executes the command at the front of the queue on the state with the queue's rest; the
opcode table gives its rows no bits, so no table word changes the queue. -/
def Obligations.StepRunsFrontCommand : Prop :=
  (∀ (c : Instr) (rest : List Instr) (s : State), s.pending = c :: rest →
    step s = exec c { s with pending := rest })
  ∧ ∀ (s : State) (nbits w : Nat), s.withFetchWord nbits w = s

/-- The model's choice (log entry 3): with no command waiting the part takes its own event, or else
its clock counts one millisecond; a part that POR holds stands still. A port that can begin a command
has the command at the head of its queue as its own event, ILLEGAL where the body spells none, when
no port before it, in the order A, B, C, has one to begin. -/
def Obligations.IdleStepTakesOwnEvent : Prop :=
  (∀ (s : State) (c : Instr), s.pending = [] → s.ownEvent = some c → step s = exec c s)
  ∧ (∀ s : State, s.pending = [] → s.ownEvent = none → s.por = false →
      step s = .next { s with time := s.time + 1 })
  ∧ (∀ s : State, s.pending = [] → s.por = true → step s = .next s)
  ∧ ∀ (s : State) (p : Station) (body : List Byte) (rest : List (List Byte)), s.por = false →
      (s.port p).canBegin = true → (s.port p).queue = body :: rest →
      (∀ q, codeStation q < codeStation p → (s.port q).canBegin = false ∨ (s.port q).queue = []) →
      s.ownEvent = some ((decodeCommand? p body).getD (.illegal p body))

/-- Every command answers a next state in every state, and leaves the waiting commands to the step.
That none is left without an answer is log entry 23, DEDUCED; that an expiry of a timer that does not
run answers the state as it is, is log entry 3. -/
def Obligations.EveryCommandAnswersNext : Prop :=
  ∀ (i : Instr) (s : State), ∃ t, exec i s = .next t ∧ t.pending = s.pending

/-- R41, R42, R6: a part that POR holds takes the levels of its lines and nothing else, and the
RESTART line acts at its edge alone. The levels a held part keeps are the model's choice (log
entry 1). -/
def Obligations.HeldPartTakesOnlyLineEvents : Prop :=
  ∀ s : State,
    (s.por = true →
      (∀ i : Instr, i.isLineEvent = false → exec i s = .next s)
      ∧ exec .restart s = .next { s with restartLine := true }
      ∧ exec .holdAssert s = .next { s with hold := true }
      ∧ exec .holdRelease s = .next { s with hold := false }
      ∧ (∀ st, exec (.localAssert st) s
          = .next (s.modPort st (fun q => { q with localLine := true })))
      ∧ ∀ k v, exec (.rawSenseChange k v) s
          = .next (s.modContactor k.val (fun c => { c with raw := v })))
    ∧ (s.restartLine = true → exec .restart s = .next s)
    ∧ exec .restartLineRelease s = .next { s with restartLine := false }

/-- R41: POR takes every block to its power-on value and holds it; its release begins operation in
CONFIG with every block at its power-on value, the BAUD strap read, the debounce timers and the
100 ms deadline running, a permit record of 0 for each present station, and each port OPEN or, with
its line asserted, LOCAL. The levels of the lines and of the sense inputs stay (log entry 1). -/
def Obligations.PowerOnResetStartsThePart : Prop :=
  ∀ s : State,
    exec .porAsserted s = .next { State.reset with
      por := true, baud := s.baud, hold := s.hold, restartLine := s.restartLine
      firstValueExpiry := none
      contactors := s.contactors.map (fun (c : Contactor) =>
        { Contactor.reset c.raw with debounceExpiry := none })
      permits := ⟨Permit.absent, Permit.absent, Permit.absent⟩
      transmitters := ⟨.reset none, .reset none, .reset none⟩
      ports := s.ports.mapAll (fun _ (q : Port) => { Port.reset with localLine := q.localLine })
      freeDraw := s.freeDraw, pending := s.pending }
    ∧ ∀ high : Bool, exec (.powerOnReset high) s = .next { State.reset with
        baud := if high then Baud.b38400 else Baud.b9600
        hold := s.hold, restartLine := s.restartLine
        contactors := s.contactors.map (fun (c : Contactor) => Contactor.reset c.raw)
        ports := s.ports.mapAll (fun _ (q : Port) => { Port.reset with
          localLine := q.localLine
          state := if q.localLine then PortState.isLocal else PortState.isOpen })
        freeDraw := s.freeDraw, pending := s.pending }

/-- R4, R7, R18, R21, R38, R40, R41, R56, R57, R74, R110, R141, R142, R152, R154, R162: what reset
leaves, and that every invariant stated below holds of it. The levels of the lines and the strap at
reset are the model's choice (log entry 1). -/
def Obligations.ResetValues : Prop :=
  State.reset.mode = .config ∧ State.reset.time = 0 ∧ State.reset.scanReady = false
  ∧ State.reset.contactors = List.replicate 96
      { map := ⟨.tower 0, ⟨false, false, false⟩, 0, 500⟩, state := .lost, commanded := .a,
        driveStart := none, travelExpiry := none, coil := .off, raw := .none, debounced := none,
        debounceExpiry := some 5 }
  ∧ (∀ st n, State.reset.slot st n = none)
  ∧ (∀ st, State.reset.station st = ⟨st != .c, .none, .allow, 1000, 10, 500, 1000, 50, 10, 3, 5⟩)
  ∧ State.reset.site = ⟨2, 30, 10⟩
  ∧ State.reset.queue = [] ∧ State.reset.nextId = 1 ∧ State.reset.engine = .free
  ∧ (∀ st, State.reset.conf st = ⟨[], none, false⟩)
  ∧ (∀ st, (State.reset.permit st).cold = .unknown ∧ (State.reset.permit st).lastPower = none
      ∧ (State.reset.permit st).target = 0 ∧ (State.reset.permit st).output = 0)
  ∧ (∀ st, (State.reset.permit st).status = ⟨st != .c, false, false, false, false, false, false, false⟩
      ∧ (State.reset.permit st).log = (State.reset.permit st).status)
  ∧ State.reset.faults = ⟨[], false, 0⟩
  ∧ (∀ p, State.reset.port p = ⟨.isOpen, false, false, 0, [], none, 0, none, [], 0, 0, none⟩)
  ∧ State.reset.pending = []
  ∧ State.reset.ClipLogHolds ∧ State.reset.PermitsBounded ∧ State.reset.FaultListBounded
  ∧ State.reset.LinksBounded ∧ State.reset.ConfigSilent ∧ State.reset.CoilsFollow
  ∧ State.reset.JobsAccounted ∧ State.reset.QueueOrdered

/-! ## Lines -/

/-- R42, R43, R18, R54, R141, R165: a RESTART keeps the mode, the map, the slots, the parameters, the
scanner and the time base; frees the engine, empties the queue, returns consent, limits, conformance,
permits and ports to their start, derives every entry by Table 1.4 and, in RUN, recognises each present
station. Fault records are kept in their places, and the list takes the faults of the derivation, said
here for one used contactor. -/
def Obligations.RestartReturnsThePart : Prop :=
  ∀ s : State, s.por = false → s.restartLine = false →
    ∃ t, exec .restart s = .next t
      ∧ t = { s with
          restartLine := true, contactors := t.contactors, stations := t.stations, queue := []
          nextId := 1, engine := .free, conformance := t.conformance, permits := t.permits
          transmitters := t.transmitters, monitor := ⟨false, 0, ⟨0, 0, 0⟩⟩, faults := t.faults
          ports := t.ports }
      ∧ (s.scanReady = true → s.contactors.length = 96 → t.contactors = s.contactors.map (fun c =>
          { c with
            coil := .off, driveStart := none, travelExpiry := none
            state := derivedState (c.debounced.getD .none)
            commanded := derivedCommanded (c.debounced.getD .none) }))
      ∧ (s.scanReady = false → t.contactors = s.contactors.map (fun c =>
          { c with coil := .off, driveStart := none, travelExpiry := none }))
      ∧ (∀ st, t.station st = { s.station st with
          consent := .allow, localLimit := 1000
          state := if s.mode = .run ∧ (s.station st).present = true then
              (match t.recognisedSlot st with
                | some n => StationState.steady n
                | none => StationState.none)
            else StationState.none })
      ∧ (∀ st, (t.permit st).output = 0 ∧ (t.permit st).cold = .unknown
          ∧ (t.permit st).dwellExpiry = none ∧ (t.permit st).reportExpiry = none
          ∧ (t.permit st).lastPower = none)
      ∧ (∀ st, (t.conf st).lost = false
          ∧ ((s.mode = .config ∨ (t.station st).state = .none) → t.conf st = ⟨[], none, false⟩))
      ∧ (∀ st, (t.transmitter st).collecting = false ∧ (t.transmitter st).linkErrors = 0
          ∧ ((s.station st).present = true →
              (t.transmitter st).sending = some ((s.transmitter st).sending.getD 0)))
      ∧ (∀ p, (t.port p).state = (if (s.port p).localLine then PortState.isLocal else PortState.isOpen)
          ∧ (t.port p).localLine = (s.port p).localLine ∧ (t.port p).collecting = false
          ∧ (t.port p).linkErrors = 0 ∧ (t.port p).queue = [] ∧ (t.port p).executing = none
          ∧ (t.port p).overrun = 0 ∧ (t.port p).reply = none
          ∧ ((s.port p).sending.isSome = true → (t.port p).sending = (s.port p).sending))
      ∧ (∀ k < 96, s.scanReady = true → s.contactors.length = 96 → (s.contactor k).used = true →
          (∀ j < 96, j ≠ k → (s.contactor j).used = false) →
          t.faults = s.faultsAfter s.time (.contactor k)
            (faultOfDerivation ((s.contactor k).debounced.getD .none)))
      ∧ ∀ (i : Nat) (r : FaultRecord), s.faults.records[i]? = some r →
          ∃ q : FaultRecord, t.faults.records[i]? = some q
          ∧ q.source = r.source ∧ q.kind = r.kind ∧ q.firstSeen = r.firstSeen ∧ r.count ≤ q.count

/-- R159, R67, R82, R78: the assertion of a LOCAL line empties the port's command queue, ends a waiting
SYNC without a reply, ends the station's QUEUED and MUTING records ENDED_LOCAL, the mute of one in
MUTING released, and makes the port LOCAL behind a LOCAL ENTERED notice. -/
def Obligations.LocalAssertEntersLocal : Prop :=
  ∀ (s : State) (st : Station), s.por = false →
    ((s.port st).localLine = true → exec (.localAssert st) s = .next s)
    ∧ ((s.port st).localLine = false → s.mode = .config ∨ s.idsOf st = [] →
        exec (.localAssert st) s = .next (s.modPort st (fun q =>
          { Port.handed .localEntered
              { q with localLine := true, executing := none, queue := [] } with
            state := .isLocal })))
    ∧ ((s.port st).localLine = false → s.mode = .run →
        ∀ r : TRecord, s.queue = [r] → r.station = st → r.stage = .queued →
          s.engine ≠ .transition r.id →
          exec (.localAssert st) s = .next ({ s with queue := [] }.modPort st (fun q =>
            { Port.handed .localEntered (Port.handed (.transitionEnded r.id .endedLocal)
                { q with localLine := true, executing := none, queue := [] }) with
              state := .isLocal })))
    ∧ ((s.port st).localLine = false → s.mode = .run →
        ∀ r f, s.fliesAlone r f → r.station = st → r.stage = .muting →
          ∃ t, exec (.localAssert st) s = .next t
            ∧ t = { s with
                queue := [], engine := .free, permits := t.permits
                transmitters := t.transmitters, conformance := t.conformance, ports := t.ports }
            ∧ s.muteReleased t r f ∧ s.monitorRestarted t f st
            ∧ (f.collateral.has st = false →
                t.port st = { Port.handed .localEntered
                    (Port.handed (.transitionEnded r.id .endedLocal)
                      { s.port st with localLine := true, executing := none, queue := [] }) with
                  state := .isLocal }))
    ∧ ((s.port st).localLine = false → s.mode = .run → s.QueueOrdered →
        ∃ t, exec (.localAssert st) s = .next t
          ∧ (t.port st).state = .isLocal ∧ (t.port st).localLine = true ∧ (t.port st).queue = []
          ∧ (t.port st).executing = none ∧ (t.port st).overrun = (s.port st).overrun
          ∧ (∀ r ∈ t.queue, r.station = st → r.stage ≠ .queued ∧ r.stage ≠ .muting)
          ∧ (∀ r ∈ s.queue, r.station = st → r.stage ≠ .queued → r.stage ≠ .muting → r ∈ t.queue)
          ∧ t.time = s.time ∧ t.mode = s.mode ∧ t.hold = s.hold ∧ t.slots = s.slots
          ∧ t.site = s.site ∧ t.nextId = s.nextId ∧ t.faults = s.faults ∧ t.monitor = s.monitor
          ∧ t.contactors.map Contactor.map = s.contactors.map Contactor.map)

/-- R160, whole: the release of a LOCAL line, and RECLAIM in each port state. -/
def Obligations.LocalReleaseAndReclaim : Prop :=
  (∀ (s : State) (st : Station),
    exec (.localRelease st) s = .next (s.modPort st (fun q => { q with localLine := false })))
  ∧ ∀ (s : State) (p : Station) (tag : Byte), s.begins p [0x2A, tag] = true →
    ((s.port p).state = .isLocal → (s.port p).localLine = true →
      exec (.reclaim p tag) s = .next ((s.begun p).reply p .reclaim tag .localPanel []))
    ∧ ((s.port p).state = .isLocal → (s.port p).localLine = false →
      exec (.reclaim p tag) s = .next (((s.begun p).modPort p (fun q =>
        { q with state := .isOpen })).reply p .reclaim tag .ok []))
    ∧ ((s.port p).state = .isOpen →
      exec (.reclaim p tag) s = .next ((s.begun p).reply p .reclaim tag .noChange []))
    ∧ ((s.port p).state = .isStopped →
      exec (.reclaim p tag) s = .next ((s.begun p).reply p .reclaim tag .stopped []))

/-- R81, R49, R50, R68, R91, R97, R105: HOLD starts the hold timer of a record in MUTING or MOVING and of
a drive job, and touches no other record; its release returns the timer and the hold time to 0, lets a
drive job start the contactor that stands next, and runs the arbiter. What a record in MOVING then
starts is said below (MovingOrdersItsStarts). -/
def Obligations.HoldTimesTheJob : Prop :=
  ∀ s : State, s.por = false →
    (s.hold = true → exec .holdAssert s = .next s)
    ∧ (s.hold = false → exec .holdRelease s = .next s)
    ∧ (s.hold = false → s.engine = .free → exec .holdAssert s = .next { s with hold := true })
    ∧ (s.hold = true → s.engine = .free → s.queue = [] →
        exec .holdRelease s = .next { s with hold := false })
    ∧ (s.hold = true → s.engine = .free →
        exec .holdRelease s = .next { s with hold := false }.arbiter)
    ∧ (∀ r f, s.fliesAlone r f → s.hold = false → r.stage = .muting ∨ r.stage = .moving →
        exec .holdAssert s = .next { s with
          hold := true
          queue := [{ r with flight := some { f with holdStart := some s.time } }] })
    ∧ (∀ r f, s.fliesAlone r f → s.hold = true → r.stage = .muting →
        exec .holdRelease s = .next { s with
          hold := false
          queue := [{ r with flight := some { f with holdStart := none, holdTime := 0 } }] })
    ∧ (∀ r f, s.fliesAlone r f → r.stage ≠ .muting → r.stage ≠ .moving →
        (s.hold = false → exec .holdAssert s = .next { s with hold := true })
        ∧ (s.hold = true → exec .holdRelease s = .next { s with hold := false }))
    ∧ (∀ j, s.engine = .drive j → s.hold = false →
        exec .holdAssert s = .next { s with
          hold := true, engine := .drive { j with holdStart := some s.time } })
    ∧ (∀ j, s.engine = .drive j → s.hold = true → s.mode = .config →
        (j.goesOn →
          (j.closed ≠ none ∨ j.waiting = [] ∨ s.site.strokeWidth ≤ j.strokes.length
            ∨ ∃ st, (s.station st).present = true ∧ (s.permit st).cold ≠ .cold) →
          exec .holdRelease s = .next { s with
            hold := false, engine := .drive { j with holdStart := none } })
        ∧ (∀ m, j.closed = none → s.allSilent → s.nextOf j.strokes j.waiting m →
          ∃ t, exec .holdRelease s = .next t
            ∧ { s with hold := false }.drivesMove t s.time { j with holdStart := none } m))

/-- R6: a raw value that differs from the debounced value starts the debounce timer at 5 ms, a third
value restarts it, the debounced value itself stops it; nothing else of the part changes. -/
def Obligations.RawSenseChangeDebounces : Prop :=
  ∀ (s : State) (k : Fin 96) (v : Sense), s.por = false →
    (s.contactor k.val).raw ≠ v →
    exec (.rawSenseChange k v) s = .next (s.modContactor k.val (fun c => { c with
      raw := v
      debounceExpiry :=
        if (s.contactor k.val).debounced = some v then none else some (s.time + 5) }))

/-! ## Contactors -/

/-- R3, R6, R8 to R11, R13, R16, R17, R20: the sense event of a contactor: the state, commanded
position, coil and timer the rules give, and the fault they raise; every other contactor as it was. So
much where no report is made or no job takes it; the report of an arrival or a failure is handed on
behind the change and its fault, and when it frees the engine the arbiter runs (R68). A value that the
state already shows raises no fault (the model's choice, log entry 28). An expiry brings the time base
to its moment (the model's choice, log entry 3). -/
def Obligations.SenseEventMovesTheContactor : Prop :=
  ∀ (s : State) (k : Fin 96) (e : Nat), s.por = false → s.scanReady = true →
    s.contactors.length = 96 → (s.contactor k.val).debounceExpiry = some e →
    ((s.contactor k.val).used = false →
      exec (.senseEvent k) s = .next { s with
        time := max s.time e
        contactors := (s.modContactor k.val (fun c =>
          { c with debounced := some c.raw, debounceExpiry := none })).contactors })
    ∧ ((s.contactor k.val).used = true → (s.contactor k.val).CoilFollows →
      (s.untold k.val ∨ ∀ y, (s.contactor k.val).state = .travel y →
        (s.contactor k.val).raw ≠ .pos y ∧ (s.contactor k.val).raw ≠ .both) →
      ∃ t, exec (.senseEvent k) s = .next t ∧ s.sameButArray t
        ∧ t.time = max s.time e ∧ t.freeDraw = s.freeDraw
        ∧ t.contactor k.val = (s.contactor k.val).sensed
        ∧ (∀ j, j ≠ k.val → t.contactor j = s.contactor j)
        ∧ t.faults = s.faultsAfter t.time (.contactor k.val)
            (faultOfSense (s.contactor k.val).state (s.contactor k.val).raw)
        ∧ (faultOfSense (s.contactor k.val).state (s.contactor k.val).raw = none → t.ports = s.ports)
        ∧ s.permitsFollow t)
    ∧ ((s.contactor k.val).used = true → (s.contactor k.val).CoilFollows →
      ∀ y, (s.contactor k.val).state = .travel y →
        let told := { s with time := max s.time e }.changeContactor k.val Contactor.sensed
        ((s.contactor k.val).raw = .pos y →
          exec (.senseEvent k) s = .next (told.thenArbiter (State.reportArrival k.val)))
        ∧ ((s.contactor k.val).raw = .both →
          exec (.senseEvent k) s = .next ((told.raiseFault (.contactor k.val) .conflict).thenArbiter
            (State.reportFailure k.val))))

/-- R7, R18: before scan ready the first debounced value of a contactor reports no event while
another contactor has none; the value of the last, and the 100 ms deadline, which gives NONE to
every contactor without a value, bring scan ready, at which every entry is derived by Table 1.4, with
the fault it gives a used contactor. An expiry brings the time base to its moment (the model's
choice, log entry 3). -/
def Obligations.FirstValuesBringScanReady : Prop :=
  (∀ (s : State) (k : Fin 96) (e : Nat), s.por = false → s.scanReady = false →
    (s.contactor k.val).debounceExpiry = some e →
    (∃ j < s.contactors.length, j ≠ k.val ∧ (s.contactor j).debounced = none) →
    exec (.senseEvent k) s = .next { s with
      time := max s.time e
      contactors := (s.modContactor k.val (fun c =>
        { c with debounced := some c.raw, debounceExpiry := none })).contactors })
  ∧ (∀ (s : State) (k : Fin 96) (e : Nat), s.por = false → s.scanReady = false →
    s.contactors.length = 96 → (s.contactor k.val).debounceExpiry = some e →
    (∀ j < 96, j ≠ k.val → (s.contactor j).debounced ≠ none) →
    ∃ t, exec (.senseEvent k) s = .next t
      ∧ s.derivedFrom t (max s.time e) (fun j =>
          if j = k.val then (s.contactor j).raw else (s.contactor j).debounced.getD .none)
      ∧ (t.contactor k.val).debounceExpiry = none
      ∧ (s.mode = .config → s.ConfigSilent →
          t.permits = s.permits ∧ t.transmitters = s.transmitters))
  ∧ ∀ (s : State) (e : Nat), s.por = false → s.scanReady = false → s.contactors.length = 96 →
    s.firstValueExpiry = some e →
    ∃ t, exec .firstValueDeadline s = .next t
      ∧ s.derivedFrom t (max s.time e) (fun j => (s.contactor j).debounced.getD .none)
      ∧ (s.mode = .config → s.ConfigSilent →
          t.permits = s.permits ∧ t.transmitters = s.transmitters)

/-- R15, R16, R17: the expiry of a travel limit: what it leaves where its report reaches no job, and
the failure it hands on behind the change and its fault, with the arbiter's run when that frees the
engine (R68). Where R15 gives no end for what the contactor shows, the travel fails and the state it
leaves is a free value (log entry 5). An expiry brings the time base to its moment (the model's choice,
log entry 3). -/
def Obligations.TravelLimitEndsTheTravel : Prop :=
  ∀ (s : State) (k : Fin 96) (e : Nat) (y : Pos), s.por = false → s.contactors.length = 96 →
    (s.contactor k.val).state = .travel y → (s.contactor k.val).travelExpiry = some e →
    (s.untold k.val →
      ∃ t, exec (.travelLimitExpiry k) s = .next t ∧ s.sameButArray t ∧ t.time = max s.time e
        ∧ (∀ j, j ≠ k.val → t.contactor j = s.contactor j)
        ∧ (∃ g, t.contactor k.val = (s.contactor k.val).failedTo g
          ∧ (g = .at y ∨ g = .stuck ∨ g = .lost ∨ g = .conflict)
          ∧ (∀ v g' kind, (s.contactor k.val).debounced = some v → limitGives y v g' kind →
              g = g' ∧ t.freeDraw = s.freeDraw
              ∧ t.faults = s.faultsAfter t.time (.contactor k.val) (some kind)))
        ∧ s.permitsFollow t)
    ∧ (∀ v g kind, (s.contactor k.val).debounced = some v → limitGives y v g kind →
        exec (.travelLimitExpiry k) s = .next (
          (({ s with time := max s.time e }.changeContactor k.val (Contactor.failedTo g)).raiseFault
            (.contactor k.val) kind).thenArbiter (State.reportFailure k.val)))
    ∧ ((∀ v, (s.contactor k.val).debounced = some v → ∀ g kind, ¬limitGives y v g kind) →
        ∃ u, exec (.travelLimitExpiry k) s = .next (u.thenArbiter (State.reportFailure k.val))
          ∧ s.sameButArray u ∧ u.time = max s.time e ∧ u.freeDraw = s.freeDraw + 1
          ∧ ∃ g, u.contactor k.val = (s.contactor k.val).failedTo g
            ∧ (g = .at y ∨ g = .stuck ∨ g = .lost ∨ g = .conflict))

/-- R14, R3, R18: the answers to a drive start. A coil drive begins only when every station exposed at
its contactor has permit output 0 and cold state COLD; every other answer energises nothing. -/
def Obligations.DriveStartAsksForCold : Prop :=
  ∀ (s : State) (k : Nat) (y : Pos), k < s.contactors.length →
    ((s.driveStart k y).1 = .started →
      (∀ st, s.exposed st k = true → (s.permit st).output = 0 ∧ (s.permit st).cold = .cold)
      ∧ s.scanReady = true ∧ (s.contactor k).used = true
      ∧ (s.contactor k).state ≠ .at y ∧ (s.contactor k).state ≠ .conflict
      ∧ (s.driveStart k y).2.contactor k = { s.contactor k with
          state := .travel y, coil := .on y, commanded := y, driveStart := some s.time
          travelExpiry := some (s.time + (s.contactor k).map.travelLimit) })
    ∧ ((s.driveStart k y).1 = .withheld → (s.driveStart k y).2 = s)
    ∧ ((s.driveStart k y).1 = .arrived → (s.contactor k).state = .at y
        ∧ (s.driveStart k y).2 = s.modContactor k (fun c => { c with commanded := y }))
    ∧ (∀ c, (s.driveStart k y).1 = .failed c → (s.driveStart k y).2 = s)
    ∧ ((s.contactor k).state = .conflict → s.scanReady = true → (s.contactor k).used = true →
        (s.driveStart k y).1 = .failed .conflict)
    ∧ (∀ j, j ≠ k → (s.driveStart k y).2.contactor j = s.contactor j)
    ∧ (s.driveStart k y).2.faults = s.faults ∧ (s.driveStart k y).2.ports = s.ports
    ∧ (s.driveStart k y).2.stations = s.stations ∧ (s.driveStart k y).2.queue = s.queue

/-! ## The job in the engine -/

/-- R15, R87, R91, R92, R93: a travel limit that expires in MOVING or ABORTING. A failure in MOVING:
with another contactor travelling the record goes to ABORTING; in ABORTING it is counted; with none
left travelling the record ends at once: the requester is MIXED when some contactor has arrived, the
mute is released, and TRANSITION ENDED, FAILED_CONTACTOR or the abort result, stands on its port,
behind STATION STATE where its state has changed (log entry 24). An expiry brings the time base to its
moment (the model's choice, log entry 3). -/
def Obligations.FailureSendsToAborting : Prop :=
  ∀ (s : State) (k : Fin 96) (e : Nat) (y : Pos) (v : Sense) (g : CState) (kind : FaultKind)
    (r : TRecord) (f : Flight) (x : TResult),
    s.por = false → s.contactors.length = 96 → s.fliesAlone r f →
    (r.stage = .moving ∧ x = .failedContactor) ∨ (r.stage = .aborting ∧ f.abortResult = some x) →
    f.strokes.contains k.val = true →
    (s.contactor k.val).state = .travel y → (s.contactor k.val).travelExpiry = some e →
    (s.contactor k.val).debounced = some v → limitGives y v g kind →
    ∃ t, exec (.travelLimitExpiry k) s = .next t
      ∧ t.time = max s.time e
      ∧ t.contactor k.val = (s.contactor k.val).failedTo g
      ∧ (∀ j, j ≠ k.val → t.contactor j = s.contactor j)
      ∧ t.faults = s.faultsAfter t.time (.contactor k.val) (some kind)
      ∧ t.mode = s.mode ∧ t.slots = s.slots ∧ t.site = s.site ∧ t.hold = s.hold
      ∧ t.nextId = s.nextId
      ∧ (without k.val f.strokes ≠ [] →
          t.engine = s.engine ∧ t.stations = s.stations ∧ t.conformance = s.conformance
          ∧ (r.stage = .moving → t.queue = [{ r with
              stage := .aborting
              flight := some { f with
                strokes := without k.val f.strokes, failures := f.failures + 1
                holdTime := f.holdSeconds t.time, holdStart := none, hotStart := none
                abortResult := some .failedContactor } }])
          ∧ (r.stage = .aborting → t.queue = [{ r with flight := some { f with
              strokes := without k.val f.strokes, failures := f.failures + 1 } }]))
      ∧ (without k.val f.strokes = [] →
          (({ s with time := max s.time e }.changeContactor k.val (Contactor.failedTo g)).raiseFault
            (.contactor k.val) kind).abortEnds t r f f.arrivals x)

/-- R10, R86, R92, R95: an arrival report. The last arrival of a record in MOVING takes it to
SETTLING for the settle time of the target slot, and with a settle time of 0 through it at once, to
PROVING as R96 gives; the last report of a record in ABORTING ends it: the requester is MIXED, the mute
is released, and TRANSITION ENDED with the abort result stands on its port, behind STATION STATE where
its state has changed (log entry 24). An expiry brings the time base to its moment (the model's choice,
log entry 3). -/
def Obligations.ArrivalReachesTheRecord : Prop :=
  ∀ (s : State) (k : Fin 96) (e : Nat) (y : Pos) (r : TRecord) (f : Flight) (p : Pattern),
    s.por = false → s.scanReady = true → s.contactors.length = 96 → s.fliesAlone r f →
    s.slot r.station r.target = some p → f.strokes.contains k.val = true →
    (s.contactor k.val).used = true → (s.contactor k.val).CoilFollows →
    (s.contactor k.val).state = .travel y → (s.contactor k.val).debounceExpiry = some e →
    (s.contactor k.val).raw = .pos y →
    (r.stage = .moving ∧ f.arrivals + 1 = f.moves.length) ∨ r.stage = .aborting →
    let told := { s with time := max s.time e }.changeContactor k.val Contactor.sensed
    ∃ t, exec (.senseEvent k) s = .next t
      ∧ t.time = max s.time e
      ∧ t.contactor k.val = (s.contactor k.val).sensed ∧ (t.contactor k.val).state = .at y
      ∧ (∀ j, j ≠ k.val → t.contactor j = s.contactor j)
      ∧ t.faults = s.faults ∧ t.mode = s.mode ∧ t.slots = s.slots ∧ t.nextId = s.nextId
      ∧ (r.stage = .moving → p.settle ≠ 0 →
          t.engine = s.engine ∧ t.stations = s.stations ∧ t.conformance = s.conformance
          ∧ t.ports = s.ports
          ∧ t.queue = [{ r with
              stage := .settling
              flight := some { f with
                strokes := without k.val f.strokes, arrivals := f.arrivals + 1
                holdTime := f.holdSeconds t.time, holdStart := none, hotStart := none
                settleExpiry := some (t.time + p.settle) } }])
      ∧ (r.stage = .moving → p.settle = 0 →
          told.provesAfterSettle t r f { f with
            strokes := without k.val f.strokes, arrivals := f.arrivals + 1
            holdTime := f.holdSeconds t.time, holdStart := none, hotStart := none } p)
      ∧ (r.stage = .aborting → without k.val f.strokes ≠ [] →
          t.engine = s.engine ∧ t.stations = s.stations ∧ t.ports = s.ports
          ∧ t.queue = [{ r with flight := some { f with
              strokes := without k.val f.strokes, arrivals := f.arrivals + 1 } }])
      ∧ (r.stage = .aborting → without k.val f.strokes = [] →
          ∀ x, f.abortResult = some x → told.abortEnds t r f (f.arrivals + 1) x)

/-- R16, R49, R50, R51, R130: what a drive job does with its reports, with cold states and with its limits:
an arrival and a failure are counted and free a stroke for the contactor that stands next, unless
starts are closed or withheld; a present station that leaves COLD starts the hot-pause time, and the
return of the last one stops it and resumes the starts; a limit closes the starts; and the job ends
with DRIVE ENDED on the issuing port when nothing travels and nothing waits, or nothing travels with
its starts closed. A sense event or a travel limit of one of its travelling contactors changes the
contactor, raises its fault and hands the job its report. An expiry brings the time base to its moment
(the model's choice, log entry 3). -/
def Obligations.DriveJobCountsAndEnds : Prop :=
  ∀ (s : State) (j : DriveJob), s.por = false → s.mode = .config → s.engine = .drive j →
    s.driveJob = some j
    ∧ (∀ cause h, j.closed = none → s.driveLimit cause = some h → j.strokes ≠ [] →
        exec (.driveJobStartsClosed cause) s = .next { s with
          time := max s.time h, engine := .drive { j with closed := some cause } })
    ∧ (∀ cause h, j.closed = none → s.driveLimit cause = some h → j.strokes = [] →
        exec (.driveJobStartsClosed cause) s = .next ({ s with
          time := max s.time h, engine := .free }.notify j.port
            (.driveEnded j.arrived j.failed (j.notDriven + j.waiting.length) (some cause))))
    ∧ (∀ h, j.closed = none → j.holdStart = some h →
        s.driveLimit .hold = some (h + 1000 * s.site.holdLimit))
    ∧ (∀ h, j.closed = none → j.hotStart = some h →
        s.driveLimit .hotPause = some (h + 1000 * s.site.muteTimeout))
    ∧ (∀ k, k ∈ j.strokes → j.waiting = [] → without k j.strokes = [] →
        s.reportArrival k = { s with engine := .free }.notify j.port
          (.driveEnded (j.arrived + 1) j.failed j.notDriven j.closed)
        ∧ s.reportFailure k = { s with engine := .free }.notify j.port
          (.driveEnded j.arrived (j.failed + 1) j.notDriven j.closed))
    ∧ (∀ k, k ∈ j.strokes → j.waiting = [] → without k j.strokes ≠ [] →
        s.reportArrival k = { s with
          engine := .drive { j with strokes := without k j.strokes, arrived := j.arrived + 1 } }
        ∧ s.reportFailure k = { s with
          engine := .drive { j with strokes := without k j.strokes, failed := j.failed + 1 } })
    ∧ (∀ k, k ∈ j.strokes → DriveJob.goesOn { j with strokes := without k j.strokes } →
        (j.closed ≠ none ∨ s.hold = true
          ∨ ∃ st, (s.station st).present = true ∧ (s.permit st).cold ≠ .cold) →
        s.reportArrival k = { s with
          engine := .drive { j with strokes := without k j.strokes, arrived := j.arrived + 1 } }
        ∧ s.reportFailure k = { s with
          engine := .drive { j with strokes := without k j.strokes, failed := j.failed + 1 } })
    ∧ (∀ k m, k ∈ j.strokes → j.closed = none → s.hold = false → s.allSilent →
        s.nextOf (without k j.strokes) j.waiting m →
        s.drivesMove (s.reportArrival k) s.time
          { j with strokes := without k j.strokes, arrived := j.arrived + 1 } m
        ∧ s.drivesMove (s.reportFailure k) s.time
          { j with strokes := without k j.strokes, failed := j.failed + 1 } m)
    ∧ (∀ (k : Fin 96) (e : Nat) (y : Pos), s.ConfigSilent → s.contactors.length = 96 →
        k.val ∈ j.strokes → (s.contactor k.val).state = .travel y →
        (s.scanReady = true → (s.contactor k.val).used = true → (s.contactor k.val).CoilFollows →
          (s.contactor k.val).debounceExpiry = some e →
          let told := { s with
            time := max s.time e
            contactors := (s.modContactor k.val Contactor.sensed).contactors }
          ((s.contactor k.val).raw = .pos y →
            exec (.senseEvent k) s = .next (told.reportArrival k.val))
          ∧ ((s.contactor k.val).raw = .both →
            exec (.senseEvent k) s = .next
              ((told.raiseFault (.contactor k.val) .conflict).reportFailure k.val)))
        ∧ ((s.contactor k.val).travelExpiry = some e →
          ∀ v g kind, (s.contactor k.val).debounced = some v → limitGives y v g kind →
            exec (.travelLimitExpiry k) s = .next (({ s with
              time := max s.time e
              contactors := (s.modContactor k.val (Contactor.failedTo g)).contactors }.raiseFault
                (.contactor k.val) kind).reportFailure k.val)))
    ∧ (∀ st e, (s.station st).present = true → (s.permit st).cold ≠ .unknown →
        (s.permit st).reportExpiry = some e → j.goesOn →
        ∃ t, exec (.reportTimeoutExpiry st) s = .next t
          ∧ t = { s with
              time := max s.time e, permits := t.permits, faults := t.faults, ports := t.ports
              engine := .drive { j with hotStart := some (j.hotStart.getD (max s.time e)) } }
          ∧ (t.permit st).cold = .unknown ∧ ∀ q, q ≠ st → t.permit q = s.permit q)
    ∧ ∀ st e, (s.station st).present = true → (s.permit st).cold = .cooling →
        (s.permit st).dwellExpiry = some e →
        (j.goesOn → (∃ q, q ≠ st ∧ (s.station q).present = true ∧ (s.permit q).cold ≠ .cold) →
          exec (.coldDwellExpiry st) s = .next ({ s with
            time := max s.time e
            engine := .drive { j with
              hotStart := some (j.hotStart.getD (max s.time e)) } }.modPermit st (fun p =>
              { p with cold := .cold, dwellExpiry := none })))
        ∧ ((∀ q, q ≠ st → (s.station q).present = true → (s.permit q).cold = .cold) →
          (j.goesOn → (s.hold = true ∨ j.closed ≠ none) →
            exec (.coldDwellExpiry st) s = .next ({ s with
              time := max s.time e, engine := .drive { j with hotStart := none } }.modPermit st
                (fun p => { p with cold := .cold, dwellExpiry := none })))
          ∧ (∀ m, s.hold = false → j.closed = none →
            (∀ q, (s.station q).present = true → (s.permit q).output = 0) →
            s.nextOf j.strokes j.waiting m →
            ∃ t, exec (.coldDwellExpiry st) s = .next t ∧ (t.permit st).cold = .cold
              ∧ s.drivesMove t (max s.time e) { j with hotStart := none } m))

/-- R78, R80, R81, R82: the mute timer and the hold limit end a record in MUTING, FAILED_HOT and
FAILED_HOLD: nothing has moved, the requester keeps its state, the mute is released, with caps formed
anew and COLLATERAL "released" on the collateral ports, and the engine is free. R68: with other
records queued, the arbiter then runs. An expiry brings the time base to its moment (the model's
choice, log entry 3). -/
def Obligations.MutingEndsAtItsLimits : Prop :=
  (∀ (s : State) (r : TRecord) (f : Flight), s.por = false → s.fliesAlone r f → r.stage = .muting →
    (∀ e, f.muteExpiry = some e → ∃ t, exec .muteTimerExpiry s = .next t
      ∧ t = { s with
          time := max s.time e, queue := [], engine := .free, permits := t.permits
          transmitters := t.transmitters, conformance := t.conformance, ports := t.ports }
      ∧ s.muteReleased t r f ∧ s.monitorRestarted t f r.station
      ∧ (f.collateral.has r.station = false → (s.port r.station).executing = none →
          t.port r.station =
            Port.handed (.transitionEnded r.id .failedHot) (s.port r.station)))
    ∧ (∀ e, f.holdStart = some e → ∃ t, exec .holdLimitReached s = .next t
      ∧ t = { s with
          time := max s.time (e + 1000 * s.site.holdLimit), queue := [], engine := .free
          permits := t.permits, transmitters := t.transmitters, conformance := t.conformance
          ports := t.ports }
      ∧ s.muteReleased t r f ∧ s.monitorRestarted t f r.station
      ∧ (f.collateral.has r.station = false → (s.port r.station).executing = none →
          t.port r.station =
            Port.handed (.transitionEnded r.id .failedHold) (s.port r.station))))
  ∧ ∀ (s : State) (r : TRecord) (f : Flight) (e : Nat), s.por = false →
    s.flying = some (r, f) → r.stage = .muting → f.muteExpiry = some e →
    let ended := { s with time := max s.time e }.endMuting .failedHot
    exec .muteTimerExpiry s = .next ended.arbiter ∧ ended.engine = .free
    ∧ ended.queue.map TRecord.id = (s.queue.map TRecord.id).filter (fun id => id != r.id)

/-- R89, R91, R93: the hold limit and the hot-pause limit take a record in MOVING with a contactor
still travelling to ABORTING, FAILED_HOLD and FAILED_HOT; nothing else of the part changes. With no
contactor travelling the record ends at once with that result: the requester is MIXED when some
contactor has arrived, the mute is released, and TRANSITION ENDED stands on its port, behind STATION
STATE where its state has changed (log entry 24). An expiry brings the time base to its moment (the
model's choice, log entry 3). -/
def Obligations.MovingEndsAtItsLimits : Prop :=
  ∀ (s : State) (r : TRecord) (f : Flight), s.por = false → s.fliesAlone r f → r.stage = .moving →
    (f.strokes ≠ [] →
      (∀ e, f.holdStart = some e → exec .holdLimitReached s = .next { s with
        time := max s.time (e + 1000 * s.site.holdLimit)
        queue := [{ r with
          stage := .aborting
          flight := some { f with
            holdTime := (max s.time (e + 1000 * s.site.holdLimit) - e) / 1000
            holdStart := none, hotStart := none, abortResult := some .failedHold } }] })
      ∧ (∀ e, f.hotStart = some e → exec .hotPauseLimitReached s = .next { s with
        time := max s.time (e + 1000 * s.site.muteTimeout)
        queue := [{ r with
          stage := .aborting
          flight := some { f with
            holdTime := f.holdSeconds (max s.time (e + 1000 * s.site.muteTimeout))
            holdStart := none, hotStart := none, abortResult := some .failedHot } }] }))
    ∧ (f.strokes = [] →
      (∀ e, f.holdStart = some e → ∃ t, exec .holdLimitReached s = .next t
        ∧ { s with time := max s.time (e + 1000 * s.site.holdLimit) }.abortEnds t r f f.arrivals
            .failedHold)
      ∧ ∀ e, f.hotStart = some e → ∃ t, exec .hotPauseLimitReached s = .next t
        ∧ { s with time := max s.time (e + 1000 * s.site.muteTimeout) }.abortEnds t r f f.arrivals
            .failedHot)

/-- R96, R98, R78: the settle timer expires: the requester is PROVING in the target slot with its
tower records formed and STATION STATE on its port, the mute is released, with caps formed anew and
COLLATERAL "released" on the collateral ports, and the proof timer runs with the proof run at 0. An
expiry brings the time base to its moment (the model's choice, log entry 3). -/
def Obligations.SettleExpiryStartsTheProof : Prop :=
  ∀ (s : State) (r : TRecord) (f : Flight) (e : Nat) (p : Pattern), s.por = false →
    s.fliesAlone r f → r.stage = .settling → f.settleExpiry = some e →
    s.slot r.station r.target = some p →
    ∃ t, exec .settleTimerExpiry s = .next t
      ∧ { s with time := max s.time e }.provesAfterSettle t r f f p

/-- R102, R103: the proof timer expires: the requester is STEADY in the target slot, every tower is
seeded OUT, the monitor timer runs, the OUT cap applies and the record ends FAILED_PROOF, with STATION
STATE, CLASS CHANGED and TRANSITION ENDED on its port in this order. An expiry brings the time base to
its moment (the model's choice, log entry 3). -/
def Obligations.ProofExpirySeedsOut : Prop :=
  ∀ (s : State) (r : TRecord) (f : Flight) (e : Nat), s.por = false → s.fliesAlone r f →
    r.stage = .proving → f.proofExpiry = some e →
    ∃ t, exec .proofTimerExpiry s = .next t
      ∧ t = { s with
          time := max s.time e, queue := [], engine := .free, stations := t.stations
          conformance := t.conformance, permits := t.permits, transmitters := t.transmitters
          ports := t.ports }
      ∧ t.station r.station = { s.station r.station with state := .steady r.target }
      ∧ (∀ q, q ≠ r.station → t.station q = s.station q ∧ t.conf q = s.conf q
          ∧ t.permit q = s.permit q ∧ t.port q = s.port q)
      ∧ t.conf r.station = ⟨(s.conf r.station).towers.map (fun w =>
          { w with current := Grade.out, escalate := 0, deescalate := 0 }),
          some (max s.time e + 1000 * (s.station r.station).monitorTimeout), false⟩
      ∧ ((s.station r.station).present = true → (s.station r.station).state = .proving r.target →
          (s.conf r.station).towers ≠ [] →
          (t.permit r.station).caps.out.applies = true
          ∧ (∀ p, s.slot r.station r.target = some p →
              (t.permit r.station).target ≤ p.licensedPower * p.outCap / 1000)
          ∧ ((s.port r.station).executing = none →
              t.port r.station = Port.handed (.transitionEnded r.id .failedProof)
                (Port.handed (.classChanged .out)
                  (Port.handed (.stationState (.steady r.target)) (s.port r.station)))))

/-- R64, R55, R157: the wait limit of a QUEUED record expires: the record leaves the queue EXPIRED
and every other record, the engine and the stations stay as they are. An expiry brings the time
base to its moment (the model's choice, log entry 3). -/
def Obligations.WaitLimitEndsTheRecord : Prop :=
  ∀ (s : State) (r : TRecord) (e : Nat), s.por = false → s.record? r.id = some r →
    r.stage = .queued → r.waitExpiry = some e → s.engine ≠ .transition r.id →
    ∃ t, exec (.waitLimitExpiry r.id) s = .next t
      ∧ t = { s with
          time := max s.time e, queue := s.queue.filter (fun q => q.id != r.id), ports := t.ports }
      ∧ (∀ q, q ≠ r.station → t.port q = s.port q)
      ∧ ((s.port r.station).executing = none →
          t.port r.station = Port.handed (.transitionEnded r.id .expired) (s.port r.station))
      ∧ (∀ w, (s.port r.station).executing = some w → w.ids = [r.id] →
          t.port r.station = Port.answered 0x94 w.tag .ok []
            { Port.handed (.transitionEnded r.id .expired) (s.port r.station) with
              executing := none })

/-- R123, R124, R126: a monitor timer expires: the flag is set, MONITOR STATE "lost" goes to the
station's port and its target is formed anew. R134, R137: a ramp tick raises the output by the
smaller of the ramp step and what is left, with a permit record. An expiry brings the time base to
its moment (the model's choice, log entry 3). The notice also comes with the flag already set (log
entry 11). -/
def Obligations.StationTimersAct : Prop :=
  ∀ (s : State) (st : Station) (e : Nat), s.por = false →
    ((s.conf st).monitorExpiry = some e → (s.station st).present = true →
      ∃ t, exec (.monitorTimerExpiry st) s = .next t
        ∧ t = { s with
            time := max s.time e, conformance := t.conformance, permits := t.permits
            transmitters := t.transmitters, ports := t.ports }
        ∧ t.conf st = { s.conf st with lost := true, monitorExpiry := none }
        ∧ t.port st = Port.handed (.monitorState false) (s.port st)
        ∧ (∀ q, q ≠ st → t.conf q = s.conf q ∧ t.permit q = s.permit q ∧ t.port q = s.port q
            ∧ t.transmitter q = s.transmitter q)
        ∧ ((s.station st).state.isSteady = true →
            ∀ p, s.currentPattern st = some p →
              (t.permit st).target ≤ p.licensedPower * p.cautionCap / 1000))
    ∧ ((s.permit st).rampExpiry = some e →
      ∃ t, exec (.rampTick st) s = .next t
        ∧ t = { s with
            time := max s.time e, permits := t.permits, transmitters := t.transmitters }
        ∧ (t.permit st).output = (s.permit st).output
            + min (s.station st).rampStep ((s.permit st).target - (s.permit st).output)
        ∧ (t.permit st).target = (s.permit st).target ∧ (t.permit st).cold = (s.permit st).cold
        ∧ (t.permit st).caps = (s.permit st).caps
        ∧ (t.permit st).lastPower = (s.permit st).lastPower
        ∧ (t.permit st).rampExpiry = (if (t.permit st).output = (t.permit st).target then none
            else some (max s.time e + 100))
        ∧ ((t.permit st).status.ramp = true ↔ (t.permit st).output < (t.permit st).target)
        ∧ t.transmitter st = (s.transmitter st).makePermit (t.permit st).output
        ∧ ∀ q, q ≠ st → t.permit q = s.permit q ∧ t.transmitter q = s.transmitter q)

/-- R128, R129: with no job in the engine, a cold dwell that expires makes its station COLD, and a
report timeout that expires makes it UNKNOWN, stops the dwell and raises LINK_SILENT. R79, R83,
R84, R88: the last station of the mute set becomes COLD: the record enters MOVING with the whole move
set waiting and the mute timer stopped. While HOLD is asserted no start is ordered; with HOLD released
the first contactor of the lowest stage starts. An expiry brings the time base to its moment (the
model's choice, log entry 3). -/
def Obligations.ColdTimersAct : Prop :=
  (∀ (s : State) (st : Station) (e : Nat), s.por = false → s.engine = .free →
    ((s.permit st).cold = .cooling → (s.permit st).dwellExpiry = some e →
      exec (.coldDwellExpiry st) s = .next ({ s with time := max s.time e }.modPermit st (fun p =>
        { p with cold := .cold, dwellExpiry := none })))
    ∧ ((s.permit st).reportExpiry = some e →
      ∃ t, exec (.reportTimeoutExpiry st) s = .next t
        ∧ t = { s with
            time := max s.time e, permits := t.permits, faults := t.faults, ports := t.ports }
        ∧ t.permit st = { s.permit st with
            cold := .unknown, dwellExpiry := none, reportExpiry := none }
        ∧ (∀ q, q ≠ st → t.permit q = s.permit q)
        ∧ t.faults = s.faultsAfter t.time (.station st) (some .linkSilent)))
  ∧ ∀ (s : State) (st : Station) (e : Nat) (r : TRecord) (f : Flight), s.por = false →
    s.fliesAlone r f → r.stage = .muting → f.muteSet.has st = true →
    (s.permit st).cold = .cooling → (s.permit st).dwellExpiry = some e →
    (∀ q, q ≠ st → f.muteSet.has q = true → (s.permit q).cold = .cold) →
    let g := { f with
      muteExpiry := none, hotStart := none, strokes := [], waiting := f.moves
      arrivals := 0, failures := 0 }
    (s.hold = true →
      exec (.coldDwellExpiry st) s = .next ({ s with
        time := max s.time e
        queue := [{ r with stage := .moving, flight := some g }] }.modPermit st (fun p =>
          { p with cold := .cold, dwellExpiry := none })))
    ∧ (∀ m, s.hold = false → s.nextAlone g m →
      ∃ t, exec (.coldDwellExpiry st) s = .next t ∧ (t.permit st).cold = .cold
        ∧ s.startsMove t (max s.time e) { r with stage := .moving } g m)

/-- R68 to R72, R76 to R78: one run of the arbiter over a queue of one QUEUED record, with the engine
free and HOLD released: each case of R71, the grant straight to PROVING, and the grant into MUTING
with or without consenting collateral stations, where a station of the mute set is not yet COLD. Over
a queue of two: the older is examined first, a record that ends or waits for consent does not hold
back the next, and the run stops at a grant. -/
def Obligations.ArbiterDecidesTheRecord : Prop :=
  (∀ (s : State) (r : TRecord), s.mode = .run → s.engine = .free → s.hold = false →
    s.queue = [r] → r.stage = .queued → r.flight = none →
    let c := s.combination r.station r.target
    let moves := s.moveSet c
    let mute := s.muteSetOf r.station moves
    let collateral := s.collateralOf r.station mute
    (compatible c = false → (s.port r.station).executing = none →
      s.arbiter = { s with queue := [] }.notify r.station (.transitionEnded r.id .conflict))
    ∧ (compatible c = true → (∃ m ∈ moves, (s.contactor m.contactor).state = .conflict) →
        (s.port r.station).executing = none →
        s.arbiter = { s with queue := [] }.notify r.station
          (.transitionEnded r.id .failedContactor))
    ∧ (compatible c = true → (∀ m ∈ moves, (s.contactor m.contactor).state ≠ .conflict) →
        collateral.isEmpty = false →
        (r.allowCollateral = false → (s.port r.station).executing = none →
          s.arbiter = { s with queue := [] }.notify r.station
            (.transitionEnded r.id .needsCollateral))
        ∧ (r.allowCollateral = true → (∃ q, collateral.has q = true ∧
              (s.station q).consent = .deny) →
            s.arbiter = { s with queue := [{ r with waitingConsent := true }] }))
    ∧ (compatible c = true → moves = [] →
        s.arbiter.engine = .transition r.id
        ∧ (s.arbiter.station r.station).state = .proving r.target
        ∧ s.arbiter.contactors = s.contactors
        ∧ ∃ f, s.arbiter.queue = [{ r with
              stage := .proving, waitingConsent := false, waitExpiry := none, flight := some f }]
            ∧ f.moves = [] ∧ f.mutePlaced = false ∧ f.proofRun = 0
            ∧ (∀ q, f.muteSet.has q = (q == r.station) ∧ f.collateral.has q = false)
            ∧ ∀ p, s.slot r.station r.target = some p →
                f.proofExpiry = some (s.time + 1000 * p.proofTimeout)
                ∧ s.arbiter.conf r.station
                  = ⟨p.towers.map (fun l => TowerRecord.formed l.tower), none, false⟩
                ∧ s.recomputedAs s.arbiter r.station
                ∧ ((s.station r.station).present = true →
                    (s.arbiter.permit r.station).caps.pattern
                      = ⟨true, some (p.licensedPower * p.proofLevel / 1000)⟩)
                ∧ ((s.station r.station).present = true →
                    (s.station r.station).state ≠ .proving r.target →
                    s.arbiter.port r.station = Port.handed (.stationState (.proving r.target))
                      (s.port r.station))
                ∧ ∀ q, q ≠ r.station → s.arbiter.station q = s.station q
                    ∧ s.arbiter.conf q = s.conf q ∧ s.arbiter.permit q = s.permit q
                    ∧ s.arbiter.port q = s.port q)
    ∧ (compatible c = true → moves ≠ [] →
        (∀ m ∈ moves, (s.contactor m.contactor).state ≠ .conflict) →
        (collateral.isEmpty = true ∨ r.allowCollateral = true) →
        (∀ q, collateral.has q = true → (s.station q).consent = .allow) →
        (∃ q, mute.has q = true ∧ (s.permit q).cold ≠ .cold) →
        s.arbiter.engine = .transition r.id ∧ s.arbiter.stations = s.stations
        ∧ s.arbiter.contactors = s.contactors
        ∧ (∀ q, s.arbiter.port q =
            if collateral.has q then Port.handed (.collateral r.id false) (s.port q)
            else s.port q)
        ∧ (∀ q, s.arbiter.conf q =
            if mute.has q && (s.station q).state.isSteady then
              { s.conf q with monitorExpiry := none }
            else s.conf q)
        ∧ (∀ q, mute.has q = true → (s.station q).present = true →
            (s.arbiter.permit q).output = 0 ∧ (s.arbiter.permit q).target = 0
            ∧ (s.arbiter.permit q).caps.mute = ⟨true, some 0⟩)
        ∧ (∀ q, mute.has q = false → s.arbiter.permit q = s.permit q)
        ∧ s.arbiter.queue = [{ r with
            stage := .muting, waitingConsent := false, waitExpiry := none
            flight := some { Flight.granted moves mute collateral with
              mutePlaced := true
              muteExpiry := some (s.time + 1000 * s.site.muteTimeout) } }]))
  ∧ ∀ (s : State) (r q : TRecord), s.mode = .run → s.engine = .free → s.hold = false →
    s.queue = [r, q] → r.id ≠ q.id → r.stage = .queued → q.stage = .queued →
    r.flight = none → q.flight = none →
    (∀ x, s.endsAs r x → (s.port r.station).executing = none →
      s.arbiter = ({ s with queue := [q] }.notify r.station (.transitionEnded r.id x)).arbiter)
    ∧ (s.parks r →
      (∀ x, s.endsAs q x → (s.port q.station).executing = none →
        s.arbiter = { s with queue := [{ r with waitingConsent := true }] }.notify q.station
          (.transitionEnded q.id x))
      ∧ (s.parks q → s.arbiter = { s with
          queue := [{ r with waitingConsent := true }, { q with waitingConsent := true }] })
      ∧ (s.grantStays q →
          s.holdsGrant s.arbiter [{ r with waitingConsent := true }] q []))
    ∧ (s.grantStays r → s.holdsGrant s.arbiter [] r [q])

/-! ## Links -/

/-- R151 to R154: a start byte, a whole record on a station port, a discarded record on any link
and a record cut off after 10 ms. How a record reaches the queue is log entry 2. Records are taken
whole (log entry 6). -/
def Obligations.LinksReceive : Prop :=
  ∀ s : State, s.por = false →
    (∀ p, exec (.startByte (.port p)) s
        = .next (s.modPort p (fun q => { q with collecting := true })))
    ∧ (∀ st, exec (.startByte (.transmitter st)) s
        = .next (s.modTransmitter st (fun l => { l with collecting := true })))
    ∧ exec (.startByte .monitor) s
        = .next { s with monitor := { s.monitor with collecting := true } }
    ∧ (∀ p body, 2 ≤ body.length → body.length ≤ 250 →
        exec (.portRecordReceived p body) s = .next (s.modPort p (fun q => { q with
          collecting := false
          queue := if q.queue.length < 8 then q.queue ++ [body] else q.queue
          overrun := if q.queue.length < 8 then q.overrun else satInc 255 q.overrun })))
    ∧ (∀ p body cause, (body.length < 2 ∨ 250 < body.length) →
        exec (.portRecordReceived p body) s = exec (.discardedRecord (.port p) cause) s)
    ∧ (∀ p cause, exec (.discardedRecord (.port p) cause) s = .next (s.modPort p (fun q =>
        { q with collecting := false, linkErrors := satInc 65535 q.linkErrors })))
    ∧ (∀ st cause, exec (.discardedRecord (.transmitter st) cause) s
        = .next (s.modTransmitter st (fun l =>
          { l with collecting := false, linkErrors := satInc 65535 l.linkErrors })))
    ∧ (∀ cause, exec (.discardedRecord .monitor cause) s = .next { s with monitor :=
        { s.monitor with collecting := false, linkErrors := satInc 65535 s.monitor.linkErrors } })
    ∧ (∀ link cause, s.isCollecting link = true →
        exec (.interbyteTimeout link) s = .next (s.discardRecord link)
        ∧ exec (.discardedRecord link cause) s = .next (s.discardRecord link))
    ∧ (∀ link, s.isCollecting link = false → exec (.interbyteTimeout link) s = .next s)

/-- R112 to R114, R152, R153: a record of the monitor link that does not decode is a link error; a set
for a station in CONFIG, absent, NONE, MIXED or muted is ignored; a set that fails the validity test is
counted. None of them changes anything else. -/
def Obligations.SampleSetsNotTaken : Prop :=
  ∀ (s : State) (body : List Byte), s.por = false →
    ((bodyFits body = false ∨ sampleSet? body = none) →
      exec (.sampleSet body) s = .next { s with monitor :=
        { s.monitor with collecting := false, linkErrors := satInc 65535 s.monitor.linkErrors } })
    ∧ ∀ st ss, bodyFits body = true → sampleSet? body = some (st, ss) →
      ((s.mode = .config ∨ (s.station st).present = false ∨ (s.station st).state = .none
          ∨ (s.station st).state = .mixed
          ∨ ∃ r f, s.flying = some (r, f) ∧ f.muteSet.has st = true
              ∧ (r.stage = .muting ∨ r.stage = .moving ∨ r.stage = .settling
                  ∨ r.stage = .aborting)) →
        exec (.sampleSet body) s
          = .next { s with monitor := { s.monitor with collecting := false } })
      ∧ ∀ p, s.ignoresSet st = false → s.currentPattern st = some p → sampleSetValid p ss = false →
        exec (.sampleSet body) s = .next { s with monitor :=
          { s.monitor with
            collecting := false
            invalidSets := s.monitor.invalidSets.modify st (satInc 65535) } }

/-- R120 to R122, R124: a valid set for a STEADY station: the monitor timer restarts, each tower is
measured and brought forward by persistence, the notices are made in their order, and the target is
formed anew when the flag was set or the station class changed. -/
def Obligations.SteadySetBringsClassesForward : Prop :=
  (∀ (s : State) (body : List Byte) (st : Station) (ss : List Sample) (n : Fin 4) (p : Pattern),
    s.por = false → bodyFits body = true → sampleSet? body = some (st, ss) →
    s.ignoresSet st = false → (s.station st).state = .steady n → s.currentPattern st = some p →
    sampleSetValid p ss = true →
    ∃ t, exec (.sampleSet body) s = .next t
      ∧ t = { s with
          monitor := { s.monitor with collecting := false }, conformance := t.conformance
          permits := t.permits, transmitters := t.transmitters, ports := t.ports }
      ∧ t.conf st = ⟨(s.conf st).towers.map (fun w => (measureTower p ss w).persist
            (s.station st).escalate (s.station st).deescalate),
          some (s.time + 1000 * (s.station st).monitorTimeout), false⟩
      ∧ (∀ q, q ≠ st → t.conf q = s.conf q ∧ t.permit q = s.permit q ∧ t.port q = s.port q)
      ∧ (let heard := if (s.conf st).lost then Port.handed (.monitorState true) (s.port st)
          else s.port st
        t.port st = if (t.conf st).stationClass = (s.conf st).stationClass then heard
          else Port.handed (.classChanged (t.conf st).stationClass) heard)
      ∧ ((s.conf st).lost = false → (t.conf st).stationClass = (s.conf st).stationClass →
          t.permit st = s.permit st)
      ∧ ((s.conf st).lost = true ∨ (t.conf st).stationClass ≠ (s.conf st).stationClass →
          (t.permit st).caps.monitor.applies = false
          ∧ ((t.permit st).caps.caution.applies = true ↔ (t.conf st).stationClass = .caution)
          ∧ ((t.permit st).caps.out.applies = true ↔ (t.conf st).stationClass = .out)))
  ∧ ∀ (w : TowerRecord) (e d : Nat),
    (w.raw = w.current → w.persist e d = { w with escalate := 0, deescalate := 0 })
    ∧ (w.current.rank < w.raw.rank → w.escalate + 1 = e →
        w.persist e d = { w with current := w.raw, escalate := 0, deescalate := 0 })
    ∧ (w.current.rank < w.raw.rank → w.escalate + 1 ≠ e →
        w.persist e d = { w with escalate := w.escalate + 1, deescalate := 0 })
    ∧ (w.raw.rank < w.current.rank → w.deescalate + 1 = d →
        w.persist e d = { w with current := w.raw, escalate := 0, deescalate := 0 })
    ∧ (w.raw.rank < w.current.rank → w.deescalate + 1 ≠ d →
        w.persist e d = { w with escalate := 0, deescalate := w.deescalate + 1 })

/-- R99 to R101, R103, R119: a valid set for the requester of a record in PROVING writes the measured
fields and moves the proof run; the run that reaches the proof count makes the station STEADY with its
towers seeded from the set and ends the record DONE, with STATION STATE, CLASS CHANGED where the
seeded class is not IN, and TRANSITION ENDED on its port in this order. -/
def Obligations.ProvingSetMovesTheProofRun : Prop :=
  ∀ (s : State) (body : List Byte) (st : Station) (ss : List Sample) (p : Pattern) (r : TRecord)
    (f : Flight),
    s.por = false → s.mode = .run → bodyFits body = true → sampleSet? body = some (st, ss) →
    s.fliesAlone r f → r.stage = .proving → r.station = st → (s.station st).present = true →
    (s.station st).state = .proving r.target → s.slot st r.target = some p →
    sampleSetValid p ss = true →
    let measured := (s.conf st).towers.map (measureTower p ss)
    let passing := measured.all (fun w => w.raw != .out)
    ∃ t, exec (.sampleSet body) s = .next t
      ∧ t = { s with
          monitor := { s.monitor with collecting := false }, queue := t.queue, engine := t.engine
          stations := t.stations, conformance := t.conformance, permits := t.permits
          transmitters := t.transmitters, ports := t.ports }
      ∧ (∀ q, q ≠ st → t.station q = s.station q ∧ t.conf q = s.conf q ∧ t.permit q = s.permit q
          ∧ t.port q = s.port q)
      ∧ ((passing = false ∨ f.proofRun + 1 ≠ p.proofCount) →
          t.engine = s.engine ∧ t.stations = s.stations ∧ t.permits = s.permits ∧ t.ports = s.ports
          ∧ t.conf st = { s.conf st with towers := measured }
          ∧ t.queue = [{ r with flight := some { f with
              proofRun := if passing then f.proofRun + 1 else 0 } }])
      ∧ (passing = true → f.proofRun + 1 = p.proofCount →
          t.engine = .free ∧ t.queue = []
          ∧ t.station st = { s.station st with state := .steady r.target }
          ∧ t.conf st = ⟨measured.map (fun w =>
              { w with current := w.raw, escalate := 0, deescalate := 0 }),
              some (s.time + 1000 * (s.station st).monitorTimeout), false⟩
          ∧ ((t.permit st).caps.caution.applies = true ↔ (t.conf st).stationClass = .caution)
          ∧ (t.permit st).caps.pattern = ⟨true, some p.licensedPower⟩
          ∧ ((s.port st).executing = none →
              t.port st = Port.handed (.transitionEnded r.id .done)
                (let told := Port.handed (.stationState (.steady r.target)) (s.port st)
                if (t.conf st).stationClass = .inBand then told
                else Port.handed (.classChanged (t.conf st).stationClass) told)))

/-- R127 to R129, R153, R168, Table 8.1: a power report on a transmitter link, with no job in the
engine; and a record there that does not decode. -/
def Obligations.PowerReportFollowsTable : Prop :=
  ∀ (s : State) (st : Station), s.por = false → s.engine = .free →
    (∀ tag hi lo, (s.station st).present = true →
      let w := min (half hi lo).toNat 1200
      let hot := decide ((s.station st).coldThreshold < w)
      exec (.powerReport st [0x61, tag, hi, lo]) s = .next
        ((s.modTransmitter st (fun l => { l with collecting := false })).modPermit st (fun q =>
          { q with
            lastPower := some w
            reportExpiry := some (s.time + (s.station st).reportTimeout)
            cold := coldAfterReading hot (decide ((s.station st).coldDwell = 0)) q.cold
            dwellExpiry :=
              if hot then none
              else if q.cold = .unknown ∨ q.cold = .hot then
                (if (s.station st).coldDwell = 0 then none
                  else some (s.time + (s.station st).coldDwell))
              else q.dwellExpiry })))
    ∧ (∀ tag hi lo, (s.station st).present = false →
      exec (.powerReport st [0x61, tag, hi, lo]) s = .next
        (s.modTransmitter st (fun l => { l with collecting := false })))
    ∧ (∀ body, powerReport? body = none →
      exec (.powerReport st body) s = .next (s.modTransmitter st (fun l =>
        { l with collecting := false, linkErrors := satInc 65535 l.linkErrors })))

/-- R135, R162, R163: what each transmit side sends next, and what a notice, a reply or a permit
record does that is handed to it. Both replies and notices leave in the order they were made. The
stamp behind the order is log entry 14. -/
def Obligations.TransmitSidesKeepTheOrder : Prop :=
  (∀ s : State, s.por = false →
    (∀ st, exec (.permitTransmitComplete st) s = .next (s.modTransmitter st (fun l =>
      { l with sending := l.waiting, waiting := none })))
    ∧ ∀ p, (((s.port p).reply = none → (s.port p).notices = [] →
        exec (.transmitComplete p) s = .next (s.modPort p (fun q => { q with sending := none })))
      ∧ (∀ m r, (s.port p).reply = some (m, r) →
          ((s.port p).notices = [] ∨ ∃ u n rest, (s.port p).notices = (u, n) :: rest ∧ m < u) →
          exec (.transmitComplete p) s = .next (s.modPort p (fun q =>
            { q with sending := some (.reply r), reply := none })))
      ∧ (∀ u n rest, (s.port p).notices = (u, n) :: rest →
          ((s.port p).reply = none ∨ ∃ m r, (s.port p).reply = some (m, r) ∧ u ≤ m) →
          exec (.transmitComplete p) s = .next (s.modPort p (fun q =>
            { q with sending := some (.notice q.lost n), notices := rest, lost := 0 })))))
  ∧ (∀ (q : Port) (n : Notice), q.sending.isSome = true →
      Port.handed n q = if q.notices.length < 16
        then { q with notices := q.notices ++ [(q.stamp, n)], stamp := q.stamp + 1 }
        else { q with lost := satInc 255 q.lost })
  ∧ (∀ (q : Port) (n : Notice), q.sending = none → q.reply = none → q.notices = [] →
      Port.handed n q = { q with sending := some (.notice q.lost n), lost := 0, stamp := q.stamp + 1 })
  ∧ (∀ (q : Port) kind tag code fields, q.sending.isSome = true →
      Port.answered kind tag code fields q = { q with
        reply := some (q.stamp, ⟨kind, tag, code, q.overrun, fields⟩)
        overrun := 0, stamp := q.stamp + 1 })
  ∧ (∀ (l : TransmitterLink) (o : Nat), l.makePermit o = if l.sending = none
      then { l with sending := some o } else { l with waiting := some o })

/-! ## Configuration commands -/

/-- R44, R45, R33, R38, R141: LOAD SITE and LOAD STATION on an OPEN port in CONFIG. What an absent
station holds is log entry 16. -/
def Obligations.LoadSiteAndStation : Prop :=
  (∀ (s : State) (p : Station) (tag c w : Byte) (h : Half) (m : Byte),
    s.takes p (.loadSite p tag c w h m) → s.mode = .config →
    (s.driveJob.isSome = true →
      exec (.loadSite p tag c w h m) s = .next ((s.begun p).reply p .loadSite tag .busy []))
    ∧ (s.driveJob = none →
        (w.toNat < 1 ∨ 4 < w.toNat ∨ h.toNat < 1 ∨ 600 < h.toNat ∨ m.toNat < 1 ∨ 60 < m.toNat) →
        exec (.loadSite p tag c w h m) s = .next ((s.begun p).reply p .loadSite tag .badValue []))
    ∧ (s.driveJob = none → 1 ≤ w.toNat → w.toNat ≤ 4 → 1 ≤ h.toNat → h.toNat ≤ 600 →
        1 ≤ m.toNat → m.toNat ≤ 60 →
        ((c ≠ 0 ↔ (s.station .c).present = true) →
          exec (.loadSite p tag c w h m) s = .next
            ({ s.begun p with site := ⟨w.toNat, h.toNat, m.toNat⟩ }.reply p .loadSite tag .ok []))
        ∧ (c = 0 → (s.station .c).present = true →
          exec (.loadSite p tag c w h m) s = .next
            ((({ s.begun p with site := ⟨w.toNat, h.toNat, m.toNat⟩ }.modStation .c (fun r =>
              { r with present := false })).modPermit .c (fun _ => Permit.absent)).reply p .loadSite
                tag .ok []))
        ∧ (c ≠ 0 → (s.station .c).present = false → s.ConfigSilent →
          ∃ t, exec (.loadSite p tag c w h m) s = .next t
            ∧ t = ({ s.begun p with
                site := ⟨w.toNat, h.toNat, m.toNat⟩, stations := t.stations, permits := t.permits
                transmitters := t.transmitters }).reply p .loadSite tag .ok []
            ∧ t.station .c = { s.station .c with present := true }
            ∧ t.station .a = s.station .a ∧ t.station .b = s.station .b
            ∧ t.permit .a = s.permit .a ∧ t.permit .b = s.permit .b
            ∧ (t.permit .c).cold = .unknown ∧ (t.permit .c).dwellExpiry = none
            ∧ (t.permit .c).reportExpiry = none ∧ (t.permit .c).lastPower = none
            ∧ (t.permit .c).target = 0 ∧ (t.permit .c).output = 0
            ∧ (t.permit .c).status = ⟨true, false, false, false, false, false, false, false⟩
            ∧ (t.permit .c).log = (t.permit .c).status
            ∧ t.transmitter .c = (s.transmitter .c).makePermit 0)))
  ∧ ∀ (s : State) (p : Station) (tag st th : Byte) (dw rt rs : Half) (mt e d : Byte),
    s.takes p (.loadStation p tag st th dw rt rs mt e d) → s.mode = .config →
    (∀ q, stationOf? st = some q → th.toNat ≤ 100 → dw.toNat ≤ 5000 → 100 ≤ rt.toNat →
        rt.toNat ≤ 5000 → 1 ≤ rs.toNat → rs.toNat ≤ 1000 → 1 ≤ mt.toNat → mt.toNat ≤ 60 →
        1 ≤ e.toNat → e.toNat ≤ 8 → 1 ≤ d.toNat → d.toNat ≤ 15 →
        exec (.loadStation p tag st th dw rt rs mt e d) s = .next
          (((s.begun p).modStation q (fun r => { r with
            coldThreshold := th.toNat, coldDwell := dw.toNat, reportTimeout := rt.toNat
            rampStep := rs.toNat, monitorTimeout := mt.toNat, escalate := e.toNat
            deescalate := d.toNat })).reply p .loadStation tag .ok []))
    ∧ ((2 < st.toNat ∨ 100 < th.toNat ∨ 5000 < dw.toNat ∨ rt.toNat < 100 ∨ 5000 < rt.toNat
          ∨ rs.toNat < 1 ∨ 1000 < rs.toNat ∨ mt.toNat < 1 ∨ 60 < mt.toNat ∨ e.toNat < 1
          ∨ 8 < e.toNat ∨ d.toNat < 1 ∨ 15 < d.toNat) →
        exec (.loadStation p tag st th dw rt rs mt e d) s = .next
          ((s.begun p).reply p .loadStation tag .badValue []))

/-- R2 to R4, R18, R46, R168: LOAD MAP on an OPEN port in CONFIG: the range, the first entry that is
not well formed, the BUSY refusal, and what the entries do; a contactor made used is derived at once
from scan ready on, with its fault, said here for one such contactor. When an entry is well formed and
what it then holds: placement, owner set, stage, and a travel limit in units of 10 ms. -/
def Obligations.LoadMapAppliesTheEntries : Prop :=
  (∀ (s : State) (p : Station) (tag first count : Byte) (es : List RawMapEntry),
    s.takes p (.loadMap p tag first count es) → s.mode = .config → es.length = count.toNat →
    ((95 < first.toNat ∨ count.toNat < 1 ∨ 96 < first.toNat + count.toNat) →
      exec (.loadMap p tag first count es) s
        = .next ((s.begun p).reply p .loadMap tag .badValue [0xFF]))
    ∧ (1 ≤ count.toNat → first.toNat + count.toNat ≤ 96 →
        (∀ k, mapEntriesFrom first.toNat es = .error k →
          exec (.loadMap p tag first count es) s
            = .next ((s.begun p).reply p .loadMap tag .badValue [BitVec.ofNat 8 k])
          ∧ first.toNat ≤ k
          ∧ (∃ e, es[k - first.toNat]? = some e ∧ mapEntry? e = none)
          ∧ ∀ i < k - first.toNat, ∃ e, es[i]? = some e ∧ (mapEntry? e).isSome = true)
        ∧ (∀ ms, mapEntriesFrom first.toNat es = .ok ms →
          (s.driveJob.isSome = true →
            exec (.loadMap p tag first count es) s
              = .next ((s.begun p).reply p .loadMap tag .busy []))
          ∧ (s.driveJob = none → s.rangeTravels first.toNat count.toNat = false →
              s.contactors.length = 96 → s.ConfigSilent →
              ∃ t, exec (.loadMap p tag first count es) s = .next t
                ∧ t = { s with contactors := t.contactors, faults := t.faults, ports := t.ports }
                ∧ (∀ k, (k < first.toNat ∨ first.toNat + count.toNat ≤ k) →
                    t.contactor k = s.contactor k)
                ∧ (∀ i e m, es[i]? = some e → mapEntry? e = some m →
                    t.contactor (first.toNat + i) =
                      (let c := s.contactor (first.toNat + i)
                      if c.used = false ∧ m.owners.isEmpty = false ∧ s.scanReady = true then
                        { c with
                          map := m, coil := .off, driveStart := none, travelExpiry := none
                          state := derivedState (c.debounced.getD .none)
                          commanded := derivedCommanded (c.debounced.getD .none) }
                      else { c with map := m }))
                ∧ ((∀ i < count.toNat, (s.contactor (first.toNat + i)).used = true) →
                    t.faults = s.faults
                    ∧ t.ports = ((s.begun p).reply p .loadMap tag .ok []).ports)
                ∧ (∀ i e m, es[i]? = some e → mapEntry? e = some m → s.scanReady = true →
                    (s.contactor (first.toNat + i)).used = false → m.owners.isEmpty = false →
                    (∀ j < count.toNat, j ≠ i → (s.contactor (first.toNat + j)).used = true) →
                    t.faults = s.faultsAfter s.time (.contactor (first.toNat + i))
                      (faultOfDerivation
                        ((s.contactor (first.toNat + i)).debounced.getD .none)))))))
  ∧ (∀ e : RawMapEntry, (mapEntry? e).isSome = true ↔
      e.placement.toNat ≤ 14
      ∧ e.ownerStage.getLsbD 3 = false ∧ e.ownerStage.getLsbD 6 = false
      ∧ e.ownerStage.getLsbD 7 = false
      ∧ 2 ≤ e.travelLimit.toNat ∧ e.travelLimit.toNat ≤ 200
      ∧ (12 ≤ e.placement.toNat → (ownersOf e.ownerStage).isEmpty = true
          ∨ e.ownerStage.getLsbD (e.placement.toNat - 12) = true))
  ∧ ∀ (e : RawMapEntry) (m : MapEntry), mapEntry? e = some m →
      (∀ h : e.placement.toNat < 12, m.placement = .tower ⟨e.placement.toNat, h⟩)
      ∧ (∀ st, e.placement.toNat = 12 + codeStation st → m.placement = .phasor st)
      ∧ (∀ st, m.owners.has st = e.ownerStage.getLsbD (codeStation st))
      ∧ m.stage.val = (e.ownerStage.getLsbD 4).toNat + 2 * (e.ownerStage.getLsbD 5).toNat
      ∧ m.travelLimit = 10 * e.travelLimit.toNat

/-- R21 to R26: LOAD PATTERN and LOAD POSITIONS on an OPEN port in CONFIG. A LOADED slot keeps its map
under a new header, an EMPTY one starts all FREE; positions of banks that are not enabled are kept.
When a header is well formed (R22), and what a slot holds of it, its towers in ascending order (R23). -/
def Obligations.LoadPatternAndPositions : Prop :=
  (∀ (s : State) (p : Station) (tag st sl n : Byte) (ts : List RawTower) (h : RawHeader),
    s.takes p (.loadPattern p tag st sl n ts h) → s.mode = .config → ts.length = n.toNat →
    ((2 < st.toNat ∨ 3 < sl.toNat) →
      exec (.loadPattern p tag st sl n ts h) s
        = .next ((s.begun p).reply p .loadPattern tag .badValue []))
    ∧ (∀ q k, stationOf? st = some q → slotOf? sl = some k →
        (headerOk n ts h = false → exec (.loadPattern p tag st sl n ts h) s
          = .next ((s.begun p).reply p .loadPattern tag .badValue []))
        ∧ (headerOk n ts h = true → s.slot q k = none →
            exec (.loadPattern p tag st sl n ts h) s = .next
              (((s.begun p).setSlot q k (some (patternOf ts h (List.replicate 96 none)))).reply p
                .loadPattern tag .ok []))
        ∧ (∀ old, headerOk n ts h = true → s.slot q k = some old →
            exec (.loadPattern p tag st sl n ts h) s = .next
              (((s.begun p).setSlot q k (some (patternOf ts h old.positions))).reply p
                .loadPattern tag .ok []))))
  ∧ (∀ (s : State) (p : Station) (tag st sl : Byte) (bk : Half) (ps : List Byte),
    s.takes p (.loadPositions p tag st sl bk ps) → s.mode = .config →
    ps.length = 8 * (banksOf bk).length →
    ((2 < st.toNat ∨ 3 < sl.toNat) →
      exec (.loadPositions p tag st sl bk ps) s
        = .next ((s.begun p).reply p .loadPositions tag .badValue [0xFF]))
    ∧ (∀ q k, stationOf? st = some q → slotOf? sl = some k →
        (s.slot q k = none → exec (.loadPositions p tag st sl bk ps) s
          = .next ((s.begun p).reply p .loadPositions tag .noPattern []))
        ∧ ∀ old, s.slot q k = some old →
          (banksOf bk = [] → exec (.loadPositions p tag st sl bk ps) s
            = .next ((s.begun p).reply p .loadPositions tag .noChange []))
          ∧ (∀ e, (bankEntries bk ps).find? (s.entryFails q) = some e →
              exec (.loadPositions p tag st sl bk ps) s
                = .next ((s.begun p).reply p .loadPositions tag .badValue [BitVec.ofNat 8 e.1]))
          ∧ (banksOf bk ≠ [] → (∀ e ∈ bankEntries bk ps, s.entryFails q e = false) →
              old.positions.length = 96 →
              ∃ new, exec (.loadPositions p tag st sl bk ps) s = .next
                  (((s.begun p).setSlot q k (some { old with positions := new })).reply p
                    .loadPositions tag .ok [])
                ∧ new.length = 96
                ∧ (∀ e ∈ bankEntries bk ps, new[e.1]? = positionOf? e.2)
                ∧ ∀ j, j / 8 ∉ banksOf bk → new[j]? = old.positions[j]?)))
  ∧ (∀ (n : Byte) (ts : List RawTower) (h : RawHeader), headerOk n ts h = true ↔
      1 ≤ n.toNat ∧ n.toNat ≤ 12
      ∧ (∀ t ∈ ts, t.tower.toNat ≤ 11) ∧ (ts.map RawTower.tower).Nodup
      ∧ (∃ t ∈ ts, t.tower = h.reference)
      ∧ (∀ t ∈ ts, 1 ≤ t.ratio.toNat ∧ t.ratio.toNat ≤ 4000 ∧ t.phase.toNat ≤ 3599
          ∧ (t.tower = h.reference → t.ratio.toNat = 1000 ∧ t.phase.toNat = 0))
      ∧ 1 ≤ h.licensedPower.toNat ∧ h.licensedPower.toNat ≤ 1000
      ∧ 1 ≤ h.ratioCaution.toNat ∧ h.ratioCaution.toNat ≤ h.ratioOut.toNat
      ∧ h.ratioOut.toNat ≤ 500
      ∧ 1 ≤ h.phaseCaution.toNat ∧ h.phaseCaution.toNat ≤ h.phaseOut.toNat
      ∧ h.phaseOut.toNat ≤ 900
      ∧ h.outCap.toNat ≤ h.cautionCap.toNat ∧ h.cautionCap.toNat ≤ 1000
      ∧ 100 ≤ h.proofLevel.toNat ∧ h.proofLevel.toNat ≤ 1000
      ∧ h.settle.toNat ≤ 10000
      ∧ 1 ≤ h.proofCount.toNat ∧ h.proofCount.toNat ≤ 8
      ∧ 1 ≤ h.proofTimeout.toNat ∧ h.proofTimeout.toNat ≤ 120)
  ∧ ∀ (n : Byte) (ts : List RawTower) (h : RawHeader) (ps : List (Option Pos)),
      headerOk n ts h = true →
      let p := patternOf ts h ps
      (p.towers.map TowerLicence.tower).Pairwise (· < ·)
      ∧ (∀ x, x ∈ p.towers ↔ ∃ t ∈ ts, x = ⟨t.tower.toNat, t.ratio.toNat, t.phase.toNat⟩)
      ∧ p = ⟨p.towers, h.reference.toNat, h.licensedPower.toNat, h.ratioCaution.toNat,
          h.ratioOut.toNat, h.phaseCaution.toNat, h.phaseOut.toNat, h.cautionCap.toNat,
          h.outCap.toNat, h.proofLevel.toNat, h.settle.toNat, h.proofCount.toNat,
          h.proofTimeout.toNat, ps⟩

/-- R27, whole: CLEAR SLOT. -/
def Obligations.ClearSlotEmptiesTheSlot : Prop :=
  ∀ (s : State) (p : Station) (tag st sl : Byte), s.takes p (.clearSlot p tag st sl) →
    (s.mode = .run → exec (.clearSlot p tag st sl) s
      = .next ((s.begun p).reply p .clearSlot tag .wrongMode []))
    ∧ (s.mode = .config → (2 < st.toNat ∨ 3 < sl.toNat) → exec (.clearSlot p tag st sl) s
      = .next ((s.begun p).reply p .clearSlot tag .badValue []))
    ∧ (s.mode = .config → ∀ q k, stationOf? st = some q → slotOf? sl = some k →
        (s.slot q k = none → exec (.clearSlot p tag st sl) s
          = .next ((s.begun p).reply p .clearSlot tag .noChange []))
        ∧ ((s.slot q k).isSome = true →
            exec (.clearSlot p tag st sl) s
              = .next (((s.begun p).setSlot q k none).reply p .clearSlot tag .ok [])
            ∧ (s.setSlot q k none).slot q k = none
            ∧ (s.setSlot q k none).keptPositions q k = List.replicate 96 none))

/-- R47, R48, R49, R14, R51: DRIVE on an OPEN port in CONFIG: its refusals, the job it forms with the
contactors that are in it, the job that HOLD keeps from its first start, the job with nothing to move,
and the first starts of a job, with the job the engine then holds. The reply stands ahead of what the
job does (log entry 8). -/
def Obligations.DriveFormsAJob : Prop :=
  ∀ (s : State) (p : Station) (tag : Byte) (bk : Half) (ps : List Byte),
    s.takes p (.drive p tag bk ps) → s.mode = .config → ps.length = 8 * (banksOf bk).length →
    (ps.any (fun b => (positionOf? b).isNone) = true →
      exec (.drive p tag bk ps) s = .next ((s.begun p).reply p .drive tag .badValue []))
    ∧ (ps.any (fun b => (positionOf? b).isNone) = false →
      ((s.driveJob.isSome = true ∨ s.scanReady = false) →
        exec (.drive p tag bk ps) s = .next ((s.begun p).reply p .drive tag .busy []))
      ∧ (s.driveJob = none → s.scanReady = true →
        (banksOf bk = [] →
          exec (.drive p tag bk ps) s = .next ((s.begun p).reply p .drive tag .noChange []))
        ∧ (banksOf bk ≠ [] →
          ((∃ st, (s.station st).present = true ∧ (s.permit st).cold ≠ .cold) →
            exec (.drive p tag bk ps) s = .next ((s.begun p).reply p .drive tag .notCold []))
          ∧ ((∀ st, (s.station st).present = true → (s.permit st).cold = .cold) →
            let j := s.formDrive p (bankEntries bk ps)
            ((∀ k x, (⟨k, x⟩ : Move) ∈ j.job ↔
                (∃ v, (k, v) ∈ bankEntries bk ps ∧ positionOf? v = some (some x))
                ∧ (s.contactor k).used = true ∧ (s.contactor k).state ≠ .at x)
              ∧ (∀ m, m ∈ j.moves ↔ m ∈ j.job ∧ (s.contactor m.contactor).state ≠ .conflict)
              ∧ j.failed = (j.job.filter (fun m =>
                  (s.contactor m.contactor).state == .conflict)).length
              ∧ j.moves.Pairwise (fun x y => (s.contactor x.contactor).map.stage
                    < (s.contactor y.contactor).map.stage
                  ∨ (s.contactor x.contactor).map.stage = (s.contactor y.contactor).map.stage
                    ∧ x.contactor < y.contactor)
              ∧ (j.job.map Move.contactor).Nodup
              ∧ j = ⟨p, j.job, j.moves, 0, j.failed, 0, [], j.moves,
                  if s.hold then some s.time else none, none, none⟩
              ∧ j.job.length = j.moves.length + j.failed
              ∧ (∀ m ∈ j.moves, (s.contactor m.contactor).used = true
                  ∧ (s.contactor m.contactor).state ≠ .at m.target
                  ∧ (s.contactor m.contactor).state ≠ .conflict)
              ∧ j.moves.Pairwise (fun x y => (s.contactor x.contactor).map.stage
                  ≤ (s.contactor y.contactor).map.stage))
            ∧ (j.moves = [] → exec (.drive p tag bk ps) s = .next
                (({ s.begun p with engine := .free }.reply p .drive tag .ok
                  [0, BitVec.ofNat 8 j.failed]).notify p (.driveEnded 0 j.failed 0 none)))
            ∧ (j.moves ≠ [] → s.hold = true → exec (.drive p tag bk ps) s = .next
                ({ s.begun p with engine := .drive j }.reply p .drive tag .ok
                  [BitVec.ofNat 8 j.moves.length, BitVec.ofNat 8 j.failed]))
            ∧ (∀ m rest, j.moves = m :: rest → s.hold = false → 1 ≤ s.site.strokeWidth →
                s.ConfigSilent → s.contactors.length = 96 →
                (∀ y, (s.contactor m.contactor).state ≠ .travel y) →
                ∃ t, exec (.drive p tag bk ps) s = .next t
                  ∧ t.contactor m.contactor = { s.contactor m.contactor with
                      state := .travel m.target, coil := .on m.target, commanded := m.target
                      driveStart := some s.time
                      travelExpiry := some (s.time + (s.contactor m.contactor).map.travelLimit) }
                  ∧ (∀ k, k ∉ j.moves.map Move.contactor → t.contactor k = s.contactor k)
                  ∧ t.stations = s.stations ∧ t.slots = s.slots ∧ t.faults = s.faults
                  ∧ t.permits = s.permits ∧ t.queue = s.queue ∧ t.mode = s.mode
                  ∧ ((∀ n ∈ j.moves, ∀ y, (s.contactor n.contactor).state ≠ .travel y) →
                    let first := (j.moves.filter (fun n => (s.contactor n.contactor).map.stage
                      == (s.contactor m.contactor).map.stage)).take s.site.strokeWidth
                    t.engine = .drive { j with
                      strokes := first.map Move.contactor, waiting := j.moves.drop first.length }
                    ∧ m ∈ first
                    ∧ (∀ n ∈ first, t.contactor n.contactor
                        = (s.contactor n.contactor).startedAt s.time n.target)
                    ∧ ∀ k, k ∉ first.map Move.contactor → t.contactor k = s.contactor k))))))

/-- R40, R52 to R54, R132: LOCK on an OPEN port in CONFIG. A LOCK that passes puts the part in RUN,
recognises every present station, forms its target and makes its STATION STATE notice; power stays at 0
until the ramp. -/
def Obligations.LockEntersRun : Prop :=
  ∀ (s : State) (p : Station) (tag : Byte), s.takes p (.lock p tag) → s.mode = .config →
    ((s.driveJob.isSome = true ∨ s.scanReady = false) →
      exec (.lock p tag) s = .next ((s.begun p).reply p .lock tag .busy []))
    ∧ (s.driveJob = none → s.scanReady = true →
      (∀ flaw, s.lockFlaw = some flaw →
        exec (.lock p tag) s = .next ((s.begun p).reply p .lock tag .invalid flaw.fields))
      ∧ ((∃ st, (s.station st).present = true ∧ ∀ o ∈ s.slots.get st, o = none) →
          ∃ st, s.lockFlaw = some (.noSlot st) ∧ (s.station st).present = true
            ∧ ∀ o ∈ s.slots.get st, o = none)
      ∧ (s.lockFlaw = none →
          (∀ st, (s.station st).present = true → ∃ o ∈ s.slots.get st, o.isSome = true)
          ∧ (∀ k < 96, ∀ st, (s.contactor k).map.owners.has st = true →
              (s.station st).present = true)
          ∧ (∀ st n q k, (s.station st).present = true → s.slot st n = some q → k < 96 →
              (q.positions.getD k none).isSome = true →
              (s.contactor k).map.owners.has st = true))
      ∧ (s.lockFlaw = none → s.ConfigSilent →
          ∃ t, exec (.lock p tag) s = .next t
            ∧ t = { s with
                mode := .run, stations := t.stations, conformance := t.conformance
                permits := t.permits, ports := t.ports }
            ∧ (∀ st, t.station st = { s.station st with
                state := if (s.station st).present then
                    (match s.recognisedSlot st with
                      | some n => StationState.steady n
                      | none => StationState.none)
                  else (s.station st).state })
            ∧ (∀ st, (t.permit st).output = 0)
            ∧ (∀ st n q, (s.station st).present = true → s.recognisedSlot st = some n →
                s.slot st n = some q →
                (t.permit st).target = min (min 1000 q.licensedPower) (s.station st).localLimit
                ∧ t.conf st = ⟨q.towers.map (fun l => TowerRecord.formed l.tower),
                    some (s.time + 1000 * (s.station st).monitorTimeout), false⟩)
            ∧ (∀ st, st ≠ p → (s.station st).present = true →
                t.port st = Port.handed (.stationState (t.station st).state) (s.port st))
            ∧ ((s.station p).present = true → t.port p = Port.answered 0x88 tag .ok []
                (Port.handed (.stationState (t.station p).state) ((s.begun p).port p)))))

/-! ## Operating commands -/

/-- R56 to R61, R68: REQUEST on an OPEN port of a present station in RUN, in the order of its checks. An
accepted one joins the queue with its reply, in place of the station's QUEUED record if there is one,
and then the arbiter runs, which does nothing under HOLD or with the engine held. -/
def Obligations.RequestIsJudgedAndQueued : Prop :=
  ∀ (s : State) (p : Station) (tag sl al : Byte) (w : Half),
    s.takes p (.request p tag sl al w) → s.mode = .run → (s.station p).present = true →
    (3 < sl.toNat →
      exec (.request p tag sl al w) s = .next ((s.begun p).reply p .request tag .badValue []))
    ∧ ∀ n, slotOf? sl = some n →
      (s.slot p n = none →
        exec (.request p tag sl al w) s = .next ((s.begun p).reply p .request tag .noPattern []))
      ∧ ((s.slot p n).isSome = true →
        ((s.station p).state = .steady n → s.allSatisfied p n = true →
          exec (.request p tag sl al w) s = .next ((s.begun p).reply p .request tag .noChange []))
        ∧ (((s.station p).state ≠ .steady n ∨ s.allSatisfied p n = false) →
          (compatible (s.combination p n) = false →
            exec (.request p tag sl al w) s
              = .next ((s.begun p).reply p .request tag .conflict []))
          ∧ (compatible (s.combination p n) = true → s.QueueOrdered →
              (s.queuedOf p = none → s.nextId ∉ s.queue.map TRecord.id →
                let accepted := { s.begun p with
                  nextId := if s.nextId < 255 then s.nextId + 1 else 1
                  queue := s.queue ++ [({
                    id := s.nextId, station := p, target := n, allowCollateral := al != 0
                    waitLimit := min w.toNat 3600, acceptedAt := s.time / 1000 % 4294967296
                    waitExpiry := if min w.toNat 3600 = 0 then none
                      else some (s.time + 1000 * min w.toNat 3600)
                    stage := .queued, waitingConsent := false, flight := none } : TRecord)]
                  }.reply p .request tag .accepted [BitVec.ofNat 8 s.nextId]
                exec (.request p tag sl al w) s = .next accepted.arbiter
                ∧ ((s.hold = true ∨ s.engine ≠ .free) → accepted.arbiter = accepted))
              ∧ (∀ old, s.queuedOf p = some old →
                  ∃ (t : State) (r : TRecord), exec (.request p tag sl al w) s = .next t.arbiter
                    ∧ ((s.hold = true ∨ s.engine ≠ .free) → t.arbiter = t)
                    ∧ t = { s with nextId := t.nextId, queue := t.queue, ports := t.ports }
                    ∧ t.queue = s.queue.filter (fun q => q.id != old.id) ++ [r]
                    ∧ r.station = p ∧ r.target = n ∧ r.stage = .queued ∧ r.flight = none
                    ∧ 1 ≤ r.id ∧ r.id ≤ 255
                    ∧ r.id ∉ (s.queue.filter (fun q => q.id != old.id)).map TRecord.id
                    ∧ (∀ q, q ≠ p → t.port q = s.port q)
                    ∧ t.port p = Port.answered 0x90 tag .accepted [BitVec.ofNat 8 r.id]
                        (Port.handed (.transitionEnded old.id .superseded)
                          ((s.begun p).port p))))))

/-- R62, R63, R78, R82: CANCEL on an OPEN port of a present station in RUN: by the record's station and
its stage; the end of a record in MUTING releases its mute. -/
def Obligations.CancelByStage : Prop :=
  ∀ (s : State) (p : Station) (tag id : Byte), s.takes p (.cancel p tag id) → s.mode = .run →
    (s.station p).present = true →
    ((∀ r, s.record? id.toNat = some r → r.station ≠ p) →
      exec (.cancel p tag id) s = .next ((s.begun p).reply p .cancel tag .unknownId []))
    ∧ ∀ r, s.record? id.toNat = some r → r.station = p →
      ((r.stage = .moving ∨ r.stage = .settling ∨ r.stage = .proving ∨ r.stage = .aborting) →
        exec (.cancel p tag id) s = .next ((s.begun p).reply p .cancel tag .late []))
      ∧ (r.stage = .queued → s.engine ≠ .transition r.id →
        exec (.cancel p tag id) s = .next (({ s.begun p with
            queue := s.queue.filter (fun q => q.id != r.id) }.reply p .cancel tag .ok []).notify p
          (.transitionEnded r.id .cancelled)))
      ∧ (∀ f, r.stage = .muting → s.fliesAlone r f →
        ∃ t, exec (.cancel p tag id) s = .next t
          ∧ t = { s with
              queue := [], engine := .free, permits := t.permits, transmitters := t.transmitters
              conformance := t.conformance, ports := t.ports }
          ∧ s.muteReleased t r f ∧ s.monitorRestarted t f p
          ∧ (f.collateral.has p = false → t.port p =
              Port.handed (.transitionEnded r.id .cancelled)
                (Port.answered 0x91 tag .ok [] ((s.begun p).port p))))

/-- R36, R65, R68: CONSENT: a change of value runs the arbiter behind the reply, which does nothing where
it finds nothing to examine, and the value already held runs none. R37, R136, R133: LIMIT. Both on an
OPEN port of a present station in RUN. -/
def Obligations.ConsentAndLimit : Prop :=
  (∀ (s : State) (p : Station) (tag v : Byte), s.takes p (.consent p tag v) → s.mode = .run →
    (s.station p).present = true →
    (1 < v.toNat →
      exec (.consent p tag v) s = .next ((s.begun p).reply p .consent tag .badValue []))
    ∧ (∀ c, consentOf? v = some c →
        ((s.station p).consent = c ∨ s.hold = true ∨ s.engine ≠ .free ∨ s.queue = []) →
        exec (.consent p tag v) s = .next (((s.begun p).modStation p (fun r =>
          { r with consent := c })).reply p .consent tag .ok []))
    ∧ (∀ c, consentOf? v = some c → (s.station p).consent ≠ c →
        exec (.consent p tag v) s = .next (((s.begun p).modStation p (fun r =>
          { r with consent := c })).reply p .consent tag .ok []).arbiter))
  ∧ ∀ (s : State) (p : Station) (tag : Byte) (v : Half), s.takes p (.limit p tag v) →
    s.mode = .run → (s.station p).present = true →
    ∃ t, exec (.limit p tag v) s = .next t
      ∧ t = { s with
          stations := t.stations, permits := t.permits, transmitters := t.transmitters
          ports := t.ports }
      ∧ t.station p = { s.station p with localLimit := min v.toNat 1000 }
      ∧ (∀ q, q ≠ p → t.station q = s.station q ∧ t.permit q = s.permit q
          ∧ t.transmitter q = s.transmitter q ∧ t.port q = s.port q)
      ∧ t.port p = Port.answered 0x93 tag .ok (byte2 (min v.toNat 1000)) ((s.begun p).port p)
      ∧ (t.permit p).target ≤ min v.toNat 1000
      ∧ (t.permit p).output = min (t.permit p).target (s.permit p).output
      ∧ (t.permit p).caps.limit = ⟨true, some (min v.toNat 1000)⟩
      ∧ (t.permit p).cold = (s.permit p).cold
      ∧ (t.transmitter p = if (t.permit p).output = (s.permit p).output then s.transmitter p
          else (s.transmitter p).makePermit (t.permit p).output)

/-- R157: SYNC on an OPEN port of a present station in RUN: answered at once, or waiting for the
station's records; while it waits the port begins nothing. -/
def Obligations.SyncWaitsForTheRecords : Prop :=
  ∀ (s : State) (p : Station) (tag : Byte), s.takes p (.sync p tag) → s.mode = .run →
    (s.station p).present = true →
    ((∀ r ∈ s.queue, r.station ≠ p) →
      exec (.sync p tag) s = .next ((s.begun p).reply p .sync tag .ok []))
    ∧ ((∃ r ∈ s.queue, r.station = p) →
      ∃ t, exec (.sync p tag) s = .next t
        ∧ t = (s.begun p).modPort p (fun q => { q with
            executing := some
              ⟨tag, (s.queue.filter (fun r => r.station == p)).map TRecord.id⟩ })
        ∧ ∀ body, t.begins p body = false)

/-! ## Reads and clears -/

/-- R19, R28, R73, R125, R140, R150, R156, R164, R168: the reads in OPEN and in LOCAL, and STATUS
in every port state. Each changes nothing but its own port; READ CLIP LOG of a present station
numbers the free values its reply may hold (log entry 4). The reply for an absent station is log
entry 10; the id and stage bytes of STATUS with no transition in the engine are log entry 25, the byte
of a flag that is set log entry 26, and the bits no table places log entry 31. R166: a reply to READ
CONTACTORS of up to 40 entries fits a record, with six bytes for a contactor. One of them carries the
commanded position, the sense value and the three bits of the state code, which stand at the same
three places for every contactor (log entry 30), so that the byte tells all three. -/
def Obligations.ReadsReportAndChangeNothing : Prop :=
  ∀ (s : State) (p : Station) (tag : Byte),
    (s.begins p [0x20, tag] = true →
      exec (.status p tag) s = .next ((s.begun p).reply p .status tag .ok (s.statusFields p)))
    ∧ ((s.port p).state ≠ .isStopped →
      (s.begins p [0x24, tag] = true → exec (.readQueue p tag) s
        = .next ((s.begun p).reply p .readQueue tag .ok s.queueFields))
      ∧ (s.begins p [0x25, tag] = true → exec (.readFaults p tag) s
        = .next ((s.begun p).reply p .readFaults tag .ok s.faultsFields))
      ∧ (∀ f c, s.begins p [0x21, tag, f, c] = true → exec (.readContactors p tag f c) s
        = .next (if 1 ≤ c.toNat ∧ c.toNat ≤ 40 ∧ f.toNat + c.toNat ≤ 96
          then (s.begun p).reply p .readContactors tag .ok (s.contactorsFields f.toNat c.toNat)
          else (s.begun p).reply p .readContactors tag .badValue []))
      ∧ (∀ st sl, s.begins p [0x22, tag, st, sl] = true →
        (∀ q n, stationOf? st = some q → slotOf? sl = some n → exec (.readPattern p tag st sl) s
          = .next ((s.begun p).reply p .readPattern tag .ok (s.patternFields q n)))
        ∧ ((2 < st.toNat ∨ 3 < sl.toNat) → exec (.readPattern p tag st sl) s
          = .next ((s.begun p).reply p .readPattern tag .badValue [])))
      ∧ (∀ st, s.begins p [0x23, tag, st] = true →
        (∀ q, stationOf? st = some q → exec (.readTowers p tag st) s
          = .next ((s.begun p).reply p .readTowers tag .ok (s.towersFields q)))
        ∧ (2 < st.toNat → exec (.readTowers p tag st) s
          = .next ((s.begun p).reply p .readTowers tag .badValue [])))
      ∧ (∀ st, s.begins p [0x26, tag, st] = true →
        (∀ q, stationOf? st = some q → exec (.readClipLog p tag st) s
          = .next ({ s.begun p with freeDraw :=
              if (s.station q).present then s.freeDraw + 7 else s.freeDraw }.reply p .readClipLog tag
                .ok (s.clipLogFields q)))
        ∧ (2 < st.toNat → exec (.readClipLog p tag st) s
          = .next ((s.begun p).reply p .readClipLog tag .badValue []))))
    ∧ (∀ (f c : Nat) (r : Reply), 1 ≤ c → c ≤ 40 → r.fields = s.contactorsFields f c →
        r.body.length = 6 + 6 * c ∧ bodyFits r.body = true)
    ∧ (∃ x y z : Nat, [x, y, z].Nodup ∧ (∀ i ∈ [x, y, z], i ∈ [2, 3, 6, 7])
      ∧ ∀ (now : Nat) (c : Contactor), ∃ b : Byte,
        contactorBytes now c = mapBytes c.map ++ [b] ++ opt2 (c.driveStart.map (fun t => now - t))
        ∧ b.toNat % 4 = codePos c.commanded
        ∧ b.toNat / 16 % 4 = codeSense (c.debounced.getD .none)
        ∧ b.getLsbD x = (codeCState c.state).testBit 0
        ∧ b.getLsbD y = (codeCState c.state).testBit 1
        ∧ b.getLsbD z = (codeCState c.state).testBit 2)
    ∧ ∀ c d : Contactor, contactorByte c = contactorByte d →
        c.state = d.state ∧ c.commanded = d.commanded
        ∧ c.debounced.getD .none = d.debounced.getD .none

/-- R139, R148, R149: CLEAR CLIP LOG and CLEAR FAULT on an OPEN port. A cause that still holds the
station down is back in the log at once; a clear touches no other block. -/
def Obligations.ClearsActOnTheirBlocks : Prop :=
  (∀ (s : State) (p : Station) (tag : Byte) (m : Half), s.takes p (.clearClipLog p tag m) →
    ((s.station p).present = false → exec (.clearClipLog p tag m) s
      = .next ((s.begun p).reply p .clearClipLog tag .notPresent []))
    ∧ ((s.station p).present = true → 255 < m.toNat → exec (.clearClipLog p tag m) s
      = .next ((s.begun p).reply p .clearClipLog tag .badValue []))
    ∧ ((s.station p).present = true → m.toNat ≤ 255 →
      ∃ log, exec (.clearClipLog p tag m) s = .next (((s.begun p).modPermit p (fun q =>
          { q with log := log })).reply p .clearClipLog tag .ok (byte2 (codeCauses log)))
        ∧ ∀ i c, allCauses[i]? = some c → (log.has c = true ↔
            (s.permit p).status.has c = true
            ∨ ((s.permit p).log.has c = true ∧ m.getLsbD i = false))))
  ∧ ∀ (s : State) (p : Station) (tag i : Byte), s.takes p (.clearFault p tag i) →
    (i.toNat < 16 → i.toNat < s.faults.records.length → exec (.clearFault p tag i) s
      = .next ({ s.begun p with faults :=
          { s.faults with records := s.faults.records.eraseIdx i.toNat } }.reply p .clearFault tag .ok
            [BitVec.ofNat 8 (s.faults.records.length - 1)]))
    ∧ (i.toNat < 16 → s.faults.records.length ≤ i.toNat → exec (.clearFault p tag i) s
      = .next ((s.begun p).reply p .clearFault tag .noChange []))
    ∧ (16 ≤ i.toNat → i.toNat < 255 → exec (.clearFault p tag i) s
      = .next ((s.begun p).reply p .clearFault tag .badValue []))
    ∧ (i.toNat = 255 → s.faults = ⟨[], false, 0⟩ → exec (.clearFault p tag i) s
      = .next ((s.begun p).reply p .clearFault tag .noChange []))
    ∧ (i.toNat = 255 → s.faults ≠ ⟨[], false, 0⟩ → exec (.clearFault p tag i) s
      = .next ({ s.begun p with faults := ⟨[], false, 0⟩ }.reply p .clearFault tag .ok [0]))

/-! ## Ports -/

/-- R156, R158, R167: an ILLEGAL record is answered with the kind received and stops an OPEN port;
RESUME opens a STOPPED one. -/
def Obligations.IllegalStopsAndResumeOpens : Prop :=
  (∀ (s : State) (p : Station) (kind tag : Byte) (rest : List Byte),
    s.begins p (kind :: tag :: rest) = true → decodeCommand? p (kind :: tag :: rest) = none →
    exec (.illegal p (kind :: tag :: rest)) s = .next (((s.begun p).modPort p (fun q => { q with
      state := if (s.port p).state = .isLocal then PortState.isLocal
        else PortState.isStopped })).answer p 0xFF tag .illegal [kind]))
  ∧ (∀ (s : State) (p : Station) (tag : Byte), s.begins p [0x29, tag] = true →
    ((s.port p).state = .isStopped → exec (.resume p tag) s = .next
      (((s.begun p).modPort p (fun q => { q with state := .isOpen })).reply p .resume tag .ok []))
    ∧ ((s.port p).state = .isOpen → exec (.resume p tag) s
      = .next ((s.begun p).reply p .resume tag .noChange []))
    ∧ ((s.port p).state = .isLocal → exec (.resume p tag) s
      = .next ((s.begun p).reply p .resume tag .localPanel [])))
  ∧ ∀ (s : State) (p : Station) (tag f c : Byte) (es : List RawMapEntry),
    s.begins p (recordBody (.loadMap p tag f c es)) = true → es.length ≠ c.toNat →
    (s.port p).state = .isOpen →
    exec (.loadMap p tag f c es) s = .next (((s.begun p).modPort p (fun q => { q with
      state := .isStopped })).answer p 0xFF tag .illegal [0x03])

/-- R40, R154 to R156: a well-formed command record that a STOPPED port, the mode or the station's
presence turns away makes one reply and changes nothing else; one whose port cannot begin it waits in
the queue, or is counted when eight wait (how a command reaches the queue is log entry 2, that its
port's receive assembler stays as it stands log entry 27). -/
def Obligations.RefusedCommandsChangeNothing : Prop :=
  ∀ (s : State) (i : Instr) (p : Station) (kind tag : Byte) (fields : List Byte),
    wellFormed i = true → encodeRecord i = some (p, kind :: tag :: fields) →
    (decodeCommand? p (kind :: tag :: fields)).isSome = true → s.por = false →
    (s.begins p (recordBody i) = true →
      ((s.port p).state = .isStopped → kind ≠ 0x20 → kind ≠ 0x29 →
        exec i s = .next ((s.begun p).answer p (kind + 0x80) tag .stopped []))
      ∧ ((s.port p).state = .isOpen → s.mode = .run → kind.toNat ≤ 8 →
        exec i s = .next ((s.begun p).answer p (kind + 0x80) tag .wrongMode []))
      ∧ ((s.port p).state ≠ .isStopped → s.mode = .config → 0x10 ≤ kind.toNat → kind.toNat ≤ 0x14 →
        exec i s = .next ((s.begun p).answer p (kind + 0x80) tag .wrongMode []))
      ∧ ((s.port p).state = .isLocal → s.mode = .run → 0x10 ≤ kind.toNat → kind.toNat ≤ 0x14 →
        exec i s = .next ((s.begun p).answer p (kind + 0x80) tag .localPanel []))
      ∧ ((s.port p).state = .isOpen → s.mode = .run → (s.station p).present = false →
        0x10 ≤ kind.toNat → kind.toNat ≤ 0x14 →
        exec i s = .next ((s.begun p).answer p (kind + 0x80) tag .notPresent []))
      ∧ ((s.port p).state = .isLocal → (kind.toNat ≤ 8 ∨ kind = 0x27 ∨ kind = 0x28 ∨ kind = 0x29) →
        exec i s = .next ((s.begun p).answer p (kind + 0x80) tag .localPanel [])))
    ∧ (s.begins p (recordBody i) = false →
        exec i s = .next (s.modPort p (fun q => { q with
          queue := if q.queue.length < 8 then q.queue ++ [kind :: tag :: fields] else q.queue
          overrun := if q.queue.length < 8 then q.overrun else satInc 255 q.overrun })))

/-! ## Records -/

/-- R167, Table 11.3: what a well-formed station-port command puts on the line decodes to that command,
every operand with every bit. -/
def Obligations.DecodeOfEncode : Prop :=
  ∀ (i : Instr) (p : Station) (body : List Byte), wellFormed i = true →
    encodeRecord i = some (p, body) → decodeRecord p body = i

/-- R151, R166, R167, Tables 11.1 to 11.3: the records the decoder accepts are exactly those the encoder
writes, a few written out byte by byte among them, and the envelope gives every body back. -/
def Obligations.RecordsKeepEveryByte : Prop :=
  (∀ (p : Station) (body : List Byte) (i : Instr), bodyFits body = true →
    decodeCommand? p body = some i → encodeRecord i = some (p, body) ∧ wellFormed i = true)
  ∧ (∀ body : List Byte, bodyFits body = true → openEnvelope? (envelope body) = some body)
  ∧ decodeRecord .b [0x10, 0x7F, 0x01, 0x02, 0x03, 0x84] = .request .b 0x7F 1 2 900
  ∧ decodeRecord .a [0x03, 0x05, 0x11, 0x01, 0x04, 0x13, 0x1E]
      = .loadMap .a 0x05 0x11 0x01 [⟨0x04, 0x13, 0x1E⟩]
  ∧ decodeRecord .c [0x13, 0x09, 0x02, 0x26] = .limit .c 0x09 550
  ∧ decodeRecord .a [0x07, 0x01, 0xF0, 0x00] = .drive .a 0x01 0xF000 []
  ∧ decodeRecord .a [0x0F, 0x01] = .illegal .a [0x0F, 0x01]

/-! ## Operations -/

/-- R115 to R118, whole: ratio, deviations and raw class of a tower, and what a valid set writes. -/
def Obligations.TowerArithmetic : Prop :=
  (∀ a r : Nat, 0 < r →
    (a * 1000 / r ≤ 4000 → ratioOf a r = (a * 1000 / r, false))
    ∧ (4000 < a * 1000 / r → ratioOf a r = (4000, true))
    ∧ ratioOf r r = (1000, false) ∧ ratioOf 0 r = (0, false) ∧ (ratioOf a r).1 ≤ 4000)
  ∧ (∀ ratio l : Nat, 0 < l → ratio ≤ 4000 →
      let d := (((ratio : Int) - l) * 1000).tdiv l
      (d ≤ 9999 → ratioDeviation ratio l = d) ∧ (9999 < d → ratioDeviation ratio l = 9999)
      ∧ ratioDeviation 0 l = -1000 ∧ ratioDeviation 1000 1000 = 0
      ∧ -1000 ≤ ratioDeviation ratio l ∧ ratioDeviation ratio l ≤ 9999)
  ∧ (∀ ph l : Nat, ph ≤ 3599 → l ≤ 3599 →
      let d := (ph : Int) - l
      (1800 < d → phaseDeviation ph l = d - 3600)
      ∧ (d ≤ -1800 → phaseDeviation ph l = d + 3600)
      ∧ (-1800 < d → d ≤ 1800 → phaseDeviation ph l = d)
      ∧ -1799 ≤ phaseDeviation ph l ∧ phaseDeviation ph l ≤ 1800 ∧ phaseDeviation 0 0 = 0)
  ∧ (∀ (p : Pattern) (dr dp : Int), p.ratioCaution ≤ p.ratioOut → p.phaseCaution ≤ p.phaseOut →
      (rawClass p dr dp = .out ↔ p.ratioOut < dr.natAbs ∨ p.phaseOut < dp.natAbs)
      ∧ (rawClass p dr dp = .inBand ↔
          dr.natAbs ≤ p.ratioCaution ∧ dp.natAbs ≤ p.phaseCaution)
      ∧ rawClass p 0 0 = .inBand)
  ∧ ∀ (p : Pattern) (reference : Nat) (l : TowerLicence) (x : Sample) (w : TowerRecord),
      w.measure p reference l x = { w with
        ratio := (ratioOf x.amplitude reference).1
        saturated := (ratioOf x.amplitude reference).2
        ratioDev := ratioDeviation (ratioOf x.amplitude reference).1 l.ratio
        phaseDev := phaseDeviation x.phase l.phase
        raw := rawClass p (ratioDeviation (ratioOf x.amplitude reference).1 l.ratio)
          (phaseDeviation x.phase l.phase) }

/-- R144 to R147: the three things that happen to a fault handed to the list, and the notices of a new
record. -/
def Obligations.FaultListTakesAFault : Prop :=
  ∀ (s : State) (source : FaultSource) (kind : FaultKind),
    let now := s.time / 1000 % 4294967296
    let t := s.raiseFault source kind
    (t = { s with faults := t.faults, ports := t.ports })
    ∧ ((∃ r ∈ s.faults.records, r.source = source ∧ r.kind = kind) →
        t.ports = s.ports ∧ t.faults = { s.faults with records := s.faults.records.map (fun r =>
          if r.source = source ∧ r.kind = kind
          then { r with count := satInc 255 r.count, lastSeen := now } else r) })
    ∧ ((∀ r ∈ s.faults.records, ¬(r.source = source ∧ r.kind = kind)) →
        s.faults.records.length < 16 →
        t.faults = { s.faults with records := s.faults.records ++ [⟨source, kind, now, now, 1⟩] }
        ∧ ∀ p, t.port p = Port.handed (.faultAdded source kind) (s.port p))
    ∧ ((∀ r ∈ s.faults.records, ¬(r.source = source ∧ r.kind = kind)) →
        16 ≤ s.faults.records.length →
        t.ports = s.ports
        ∧ t.faults = { s.faults with overflow := true, dropped := satInc 255 s.faults.dropped })

/-! ## What every step keeps -/

/-- R132, R138, R141: the log of a station always contains its status, its output never exceeds its
target nor its target its local limit, and a station that is not present holds nothing. -/
def Obligations.StepKeepsPermitsBounded : Prop :=
  ∀ s t : State, step s = .next t →
    (s.ClipLogHolds → t.ClipLogHolds) ∧ (s.PermitsBounded → t.PermitsBounded)

/-- R142, Table 9.1: at most 16 fault records, no two of one source and kind, every count 1 to 255. -/
def Obligations.StepKeepsFaultListBounded : Prop :=
  ∀ s t : State, s.FaultListBounded → step s = .next t → t.FaultListBounded

/-- R110, R152, R154, R162: every queue and every count of the links stays within its bound. -/
def Obligations.StepKeepsLinksBounded : Prop :=
  ∀ s t : State, s.LinksBounded → step s = .next t → t.LinksBounded

/-- R40, R57: in CONFIG the queue is empty, no transition flies, and every station is NONE at power
0. -/
def Obligations.StepKeepsConfigSilent : Prop :=
  ∀ s t : State, s.ConfigSilent → step s = .next t → t.ConfigSilent

/-- R1, R8, R13, R15, R18: one coil is energised exactly while its contactor travels toward its side. -/
def Obligations.StepKeepsCoilsFollow : Prop :=
  ∀ s t : State, s.CoilsFollow → step s = .next t → t.CoilsFollow

/-- R51, R75, R92: the stroke width bounds the travelling contactors, and every contactor of a job is
counted, travelling or waiting, once. -/
def Obligations.StepKeepsJobsAccounted : Prop :=
  ∀ s t : State, s.JobsAccounted → step s = .next t → t.JobsAccounted

/-- R55 to R57, R68: ids are distinct and 1 to 255, one QUEUED record a station, one granted record in
the part, and it is the engine's. -/
def Obligations.StepKeepsQueueOrdered : Prop :=
  ∀ s t : State, s.QueueOrdered → step s = .next t → t.QueueOrdered

/-- R133, R134: a permit output rises at a ramp tick of its station alone, and by no more than the ramp
step. -/
def Obligations.OutputRisesOnlyByTheRamp : Prop :=
  ∀ (s t : State) (i : Instr) (st : Station), exec i s = .next t →
    (t.permit st).output ≤ (s.permit st).output
    ∨ (i = .rampTick st
        ∧ (t.permit st).output ≤ (s.permit st).output + (s.station st).rampStep)

/-- R21, R38, R40, R46: LOCK alone leads from CONFIG to RUN and POR alone back; while the part stays in
RUN its pattern slots, its parameters and its contactor map do not change. -/
def Obligations.RunFixesTheTables : Prop :=
  ∀ (s t : State) (i : Instr), exec i s = .next t →
    (s.mode = .config → t.mode = .run → ∃ p tag, i = .lock p tag)
    ∧ (s.mode = .run → t.mode = .config → i = .porAsserted ∨ ∃ high, i = .powerOnReset high)
    ∧ (s.mode = .run → t.mode = .run →
        t.slots = s.slots ∧ t.site = s.site
        ∧ t.contactors.map Contactor.map = s.contactors.map Contactor.map
        ∧ ∀ st, t.station st = { s.station st with
            state := (t.station st).state, consent := (t.station st).consent
            localLimit := (t.station st).localLimit })

/-! ## Starts of a record in MOVING -/

/-- R84 to R86, R88, R130, R14: a record in MOVING orders its starts. A mute-set station that leaves
COLD starts the hot-pause timer, and nothing is started; the return of the last one stops it, and the
starts go on when HOLD is released; HOLD withholds them and its release lets them go on; a contactor of
a later stage waits for the current stage; and an arrival frees its stroke for the next contactor of
the current stage, or of the next one, unless starts are withheld. An expiry brings the time base to
its moment (the model's choice, log entry 3). -/
def Obligations.MovingOrdersItsStarts : Prop :=
  ∀ (s : State) (r : TRecord) (f : Flight), s.por = false → s.contactors.length = 96 →
    s.fliesAlone r f → r.stage = .moving →
    (∀ st e, f.muteSet.has st = true → (s.permit st).cold ≠ .unknown →
      (s.permit st).reportExpiry = some e →
      ∃ t, exec (.reportTimeoutExpiry st) s = .next t
        ∧ t = { s with
            time := max s.time e, permits := t.permits, faults := t.faults, ports := t.ports
            queue := [{ r with flight := some { f with
              hotStart := some (f.hotStart.getD (max s.time e)) } }] }
        ∧ (t.permit st).cold = .unknown ∧ ∀ q, q ≠ st → t.permit q = s.permit q)
    ∧ (∀ st tag hi lo, f.muteSet.has st = true → (s.station st).present = true →
      (s.permit st).cold ≠ .hot → (s.station st).coldThreshold < min (half hi lo).toNat 1200 →
      ∃ t, exec (.powerReport st [0x61, tag, hi, lo]) s = .next t
        ∧ t = { s with
            permits := t.permits, transmitters := t.transmitters
            queue := [{ r with flight := some { f with
              hotStart := some (f.hotStart.getD s.time) } }] }
        ∧ (t.permit st).cold = .hot ∧ ∀ q, q ≠ st → t.permit q = s.permit q)
    ∧ (∀ st e, f.muteSet.has st = true → (s.permit st).cold = .cooling →
      (s.permit st).dwellExpiry = some e →
      ((∃ q, q ≠ st ∧ f.muteSet.has q = true ∧ (s.permit q).cold ≠ .cold) →
        exec (.coldDwellExpiry st) s = .next ({ s with
          time := max s.time e
          queue := [{ r with flight := some { f with
            hotStart := some (f.hotStart.getD (max s.time e)) } }] }.modPermit st (fun p =>
            { p with cold := .cold, dwellExpiry := none })))
      ∧ ((∀ q, q ≠ st → f.muteSet.has q = true → (s.permit q).cold = .cold) →
        (s.hold = true →
          exec (.coldDwellExpiry st) s = .next ({ s with
            time := max s.time e
            queue := [{ r with flight := some { f with hotStart := none } }] }.modPermit st
              (fun p => { p with cold := .cold, dwellExpiry := none })))
        ∧ (∀ m, s.hold = false → s.nextAlone f m →
          ∃ t, exec (.coldDwellExpiry st) s = .next t
            ∧ (t.permit st).cold = .cold
            ∧ s.startsMove t (max s.time e) r { f with hotStart := none } m)))
    ∧ (s.hold = true →
      (((∃ q, f.muteSet.has q = true ∧ (s.permit q).cold ≠ .cold) ∨ f.waiting = []
          ∨ s.site.strokeWidth ≤ f.strokes.length
          ∨ ∃ k ∈ f.strokes, ∀ n ∈ f.waiting,
              (s.contactor k).map.stage < (s.contactor n.contactor).map.stage) →
        exec .holdRelease s = .next { s with
          hold := false
          queue := [{ r with flight := some { f with holdStart := none, holdTime := 0 } }] })
      ∧ (∀ m, (∀ q, f.muteSet.has q = true → (s.permit q).cold = .cold) → s.nextAlone f m →
        ∃ t, exec .holdRelease s = .next t
          ∧ { s with hold := false }.startsMove t s.time r
            { f with holdStart := none, holdTime := 0 } m
          ∧ s.permitsFollow t))
    ∧ ∀ (k : Fin 96) (e : Nat) (y : Pos), s.scanReady = true → f.strokes.contains k.val = true →
      (s.contactor k.val).used = true → (s.contactor k.val).CoilFollows →
      (s.contactor k.val).state = .travel y → (s.contactor k.val).debounceExpiry = some e →
      (s.contactor k.val).raw = .pos y → f.arrivals + 1 ≠ f.moves.length →
      let g := { f with strokes := without k.val f.strokes, arrivals := f.arrivals + 1 }
      let arrived := s.modContactor k.val Contactor.sensed
      ((s.hold = true ∨ ∃ q, f.muteSet.has q = true ∧ (s.permit q).cold ≠ .cold) →
        ∃ t, exec (.senseEvent k) s = .next t ∧ arrived.carries t (max s.time e) r g
          ∧ ∀ j, t.contactor j = arrived.contactor j)
      ∧ ∀ m, s.hold = false → (∀ q, f.muteSet.has q = true → (s.permit q).cold = .cold) →
        s.nextAlone g m →
        ∃ t, exec (.senseEvent k) s = .next t ∧ arrived.startsMove t (max s.time e) r g m
end

