-- ==== Sys2Proof/Laws/State.lean ====
section
/-! SUPPORT. One lemma per field per update of the state: what a named update leaves as it was, and
what it writes. All are true by `rfl` and are the simplifier's, so that no later proof unfolds an
update. -/

namespace Sys2Proof.Machine

/-! ## One value for each station -/

section PerStationLaws
variable {α : Type} (t : PerStation α) (st : Station) (f : α → α)

@[simp] theorem PerStation.get_modify_same : (t.modify st f).get st = f (t.get st) := by
  cases st <;> rfl

@[simp] theorem PerStation.get_modify_of_ne {q : Station} (h : q ≠ st) :
    (t.modify st f).get q = t.get q := by
  cases st <;> cases q <;> first | rfl | exact absurd rfl h

theorem PerStation.get_modify (q : Station) :
    (t.modify st f).get q = if q = st then f (t.get q) else t.get q := by
  cases st <;> cases q <;> rfl

@[simp] theorem PerStation.get_mapAll (g : Station → α → α) (q : Station) :
    (t.mapAll g).get q = g q (t.get q) := by
  cases q <;> rfl

theorem PerStation.ext_get {u : PerStation α} (h : ∀ q, t.get q = u.get q) : t = u := by
  cases t; cases u
  have ha := h .a
  have hb := h .b
  have hc := h .c
  simp only [PerStation.get] at ha hb hc
  subst ha; subst hb; subst hc; rfl

@[simp] theorem PerStation.modify_modify (g : α → α) :
    (t.modify st f).modify st g = t.modify st (fun x => g (f x)) := by
  cases st <;> rfl

@[simp] theorem PerStation.modify_id : t.modify st (fun x => x) = t := by
  cases st <;> rfl

end PerStationLaws

@[simp] theorem StationSet.has_of (f : Station → Bool) (st : Station) :
    (StationSet.of f).has st = f st := by
  cases st <;> rfl

theorem StationSet.mem_members (t : StationSet) (st : Station) : st ∈ t.members ↔ t.has st = true := by
  cases st <;> simp [StationSet.members, allStations, StationSet.has]

theorem mem_allStations (st : Station) : st ∈ allStations := by
  cases st <;> simp [allStations]

@[simp] theorem CauseSet.has_of (f : Cause → Bool) (c : Cause) : (CauseSet.of f).has c = f c := by
  cases c <;> rfl

@[simp] theorem CauseSet.has_union (t u : CauseSet) (c : Cause) :
    (t.union u).has c = (t.has c || u.has c) := by
  cases c <;> rfl

@[simp] theorem CauseSet.has_diff (t u : CauseSet) (c : Cause) :
    (t.diff u).has c = (t.has c && !u.has c) := by
  cases c <;> rfl

@[simp] theorem CauseSet.has_empty (c : Cause) : CauseSet.empty.has c = false := by
  cases c <;> rfl

/-! ## modStation -/

section modStationLaws
variable (s : State) (st : Station) (f : StationRecord → StationRecord)

@[simp] theorem State.modStation_por : (s.modStation st f).por = s.por := rfl
@[simp] theorem State.modStation_baud : (s.modStation st f).baud = s.baud := rfl
@[simp] theorem State.modStation_hold : (s.modStation st f).hold = s.hold := rfl
@[simp] theorem State.modStation_restartLine : (s.modStation st f).restartLine = s.restartLine := rfl
@[simp] theorem State.modStation_mode : (s.modStation st f).mode = s.mode := rfl
@[simp] theorem State.modStation_time : (s.modStation st f).time = s.time := rfl
@[simp] theorem State.modStation_scanReady : (s.modStation st f).scanReady = s.scanReady := rfl
@[simp] theorem State.modStation_firstValueExpiry : (s.modStation st f).firstValueExpiry = s.firstValueExpiry := rfl
@[simp] theorem State.modStation_contactors : (s.modStation st f).contactors = s.contactors := rfl
@[simp] theorem State.modStation_slots : (s.modStation st f).slots = s.slots := rfl
@[simp] theorem State.modStation_site : (s.modStation st f).site = s.site := rfl
@[simp] theorem State.modStation_queue : (s.modStation st f).queue = s.queue := rfl
@[simp] theorem State.modStation_nextId : (s.modStation st f).nextId = s.nextId := rfl
@[simp] theorem State.modStation_engine : (s.modStation st f).engine = s.engine := rfl
@[simp] theorem State.modStation_conformance : (s.modStation st f).conformance = s.conformance := rfl
@[simp] theorem State.modStation_permits : (s.modStation st f).permits = s.permits := rfl
@[simp] theorem State.modStation_transmitters : (s.modStation st f).transmitters = s.transmitters := rfl
@[simp] theorem State.modStation_monitor : (s.modStation st f).monitor = s.monitor := rfl
@[simp] theorem State.modStation_faults : (s.modStation st f).faults = s.faults := rfl
@[simp] theorem State.modStation_ports : (s.modStation st f).ports = s.ports := rfl
@[simp] theorem State.modStation_freeDraw : (s.modStation st f).freeDraw = s.freeDraw := rfl
@[simp] theorem State.modStation_pending : (s.modStation st f).pending = s.pending := rfl
@[simp] theorem State.modStation_permit (q : Station) : (s.modStation st f).permit q = s.permit q := rfl
@[simp] theorem State.modStation_port (q : Station) : (s.modStation st f).port q = s.port q := rfl
@[simp] theorem State.modStation_conf (q : Station) : (s.modStation st f).conf q = s.conf q := rfl
@[simp] theorem State.modStation_transmitter (q : Station) : (s.modStation st f).transmitter q = s.transmitter q := rfl
@[simp] theorem State.modStation_contactor (i : Nat) : (s.modStation st f).contactor i = s.contactor i := rfl
@[simp] theorem State.modStation_slot (q : Station) (m : Fin 4) : (s.modStation st f).slot q m = s.slot q m := rfl
@[simp] theorem State.modStation_flying : (s.modStation st f).flying = s.flying := rfl
@[simp] theorem State.modStation_record (i : Nat) : (s.modStation st f).record? i = s.record? i := rfl
@[simp] theorem State.modStation_driveJob : (s.modStation st f).driveJob = s.driveJob := rfl

end modStationLaws

/-! ## modPermit -/

section modPermitLaws
variable (s : State) (st : Station) (f : Permit → Permit)

@[simp] theorem State.modPermit_por : (s.modPermit st f).por = s.por := rfl
@[simp] theorem State.modPermit_baud : (s.modPermit st f).baud = s.baud := rfl
@[simp] theorem State.modPermit_hold : (s.modPermit st f).hold = s.hold := rfl
@[simp] theorem State.modPermit_restartLine : (s.modPermit st f).restartLine = s.restartLine := rfl
@[simp] theorem State.modPermit_mode : (s.modPermit st f).mode = s.mode := rfl
@[simp] theorem State.modPermit_time : (s.modPermit st f).time = s.time := rfl
@[simp] theorem State.modPermit_scanReady : (s.modPermit st f).scanReady = s.scanReady := rfl
@[simp] theorem State.modPermit_firstValueExpiry : (s.modPermit st f).firstValueExpiry = s.firstValueExpiry := rfl
@[simp] theorem State.modPermit_contactors : (s.modPermit st f).contactors = s.contactors := rfl
@[simp] theorem State.modPermit_slots : (s.modPermit st f).slots = s.slots := rfl
@[simp] theorem State.modPermit_stations : (s.modPermit st f).stations = s.stations := rfl
@[simp] theorem State.modPermit_site : (s.modPermit st f).site = s.site := rfl
@[simp] theorem State.modPermit_queue : (s.modPermit st f).queue = s.queue := rfl
@[simp] theorem State.modPermit_nextId : (s.modPermit st f).nextId = s.nextId := rfl
@[simp] theorem State.modPermit_engine : (s.modPermit st f).engine = s.engine := rfl
@[simp] theorem State.modPermit_conformance : (s.modPermit st f).conformance = s.conformance := rfl
@[simp] theorem State.modPermit_transmitters : (s.modPermit st f).transmitters = s.transmitters := rfl
@[simp] theorem State.modPermit_monitor : (s.modPermit st f).monitor = s.monitor := rfl
@[simp] theorem State.modPermit_faults : (s.modPermit st f).faults = s.faults := rfl
@[simp] theorem State.modPermit_ports : (s.modPermit st f).ports = s.ports := rfl
@[simp] theorem State.modPermit_freeDraw : (s.modPermit st f).freeDraw = s.freeDraw := rfl
@[simp] theorem State.modPermit_pending : (s.modPermit st f).pending = s.pending := rfl
@[simp] theorem State.modPermit_station (q : Station) : (s.modPermit st f).station q = s.station q := rfl
@[simp] theorem State.modPermit_port (q : Station) : (s.modPermit st f).port q = s.port q := rfl
@[simp] theorem State.modPermit_conf (q : Station) : (s.modPermit st f).conf q = s.conf q := rfl
@[simp] theorem State.modPermit_transmitter (q : Station) : (s.modPermit st f).transmitter q = s.transmitter q := rfl
@[simp] theorem State.modPermit_contactor (i : Nat) : (s.modPermit st f).contactor i = s.contactor i := rfl
@[simp] theorem State.modPermit_slot (q : Station) (m : Fin 4) : (s.modPermit st f).slot q m = s.slot q m := rfl
@[simp] theorem State.modPermit_flying : (s.modPermit st f).flying = s.flying := rfl
@[simp] theorem State.modPermit_record (i : Nat) : (s.modPermit st f).record? i = s.record? i := rfl
@[simp] theorem State.modPermit_driveJob : (s.modPermit st f).driveJob = s.driveJob := rfl

end modPermitLaws

/-! ## modPort -/

section modPortLaws
variable (s : State) (p : Station) (f : Port → Port)

@[simp] theorem State.modPort_por : (s.modPort p f).por = s.por := rfl
@[simp] theorem State.modPort_baud : (s.modPort p f).baud = s.baud := rfl
@[simp] theorem State.modPort_hold : (s.modPort p f).hold = s.hold := rfl
@[simp] theorem State.modPort_restartLine : (s.modPort p f).restartLine = s.restartLine := rfl
@[simp] theorem State.modPort_mode : (s.modPort p f).mode = s.mode := rfl
@[simp] theorem State.modPort_time : (s.modPort p f).time = s.time := rfl
@[simp] theorem State.modPort_scanReady : (s.modPort p f).scanReady = s.scanReady := rfl
@[simp] theorem State.modPort_firstValueExpiry : (s.modPort p f).firstValueExpiry = s.firstValueExpiry := rfl
@[simp] theorem State.modPort_contactors : (s.modPort p f).contactors = s.contactors := rfl
@[simp] theorem State.modPort_slots : (s.modPort p f).slots = s.slots := rfl
@[simp] theorem State.modPort_stations : (s.modPort p f).stations = s.stations := rfl
@[simp] theorem State.modPort_site : (s.modPort p f).site = s.site := rfl
@[simp] theorem State.modPort_queue : (s.modPort p f).queue = s.queue := rfl
@[simp] theorem State.modPort_nextId : (s.modPort p f).nextId = s.nextId := rfl
@[simp] theorem State.modPort_engine : (s.modPort p f).engine = s.engine := rfl
@[simp] theorem State.modPort_conformance : (s.modPort p f).conformance = s.conformance := rfl
@[simp] theorem State.modPort_permits : (s.modPort p f).permits = s.permits := rfl
@[simp] theorem State.modPort_transmitters : (s.modPort p f).transmitters = s.transmitters := rfl
@[simp] theorem State.modPort_monitor : (s.modPort p f).monitor = s.monitor := rfl
@[simp] theorem State.modPort_faults : (s.modPort p f).faults = s.faults := rfl
@[simp] theorem State.modPort_freeDraw : (s.modPort p f).freeDraw = s.freeDraw := rfl
@[simp] theorem State.modPort_pending : (s.modPort p f).pending = s.pending := rfl
@[simp] theorem State.modPort_station (q : Station) : (s.modPort p f).station q = s.station q := rfl
@[simp] theorem State.modPort_permit (q : Station) : (s.modPort p f).permit q = s.permit q := rfl
@[simp] theorem State.modPort_conf (q : Station) : (s.modPort p f).conf q = s.conf q := rfl
@[simp] theorem State.modPort_transmitter (q : Station) : (s.modPort p f).transmitter q = s.transmitter q := rfl
@[simp] theorem State.modPort_contactor (i : Nat) : (s.modPort p f).contactor i = s.contactor i := rfl
@[simp] theorem State.modPort_slot (q : Station) (m : Fin 4) : (s.modPort p f).slot q m = s.slot q m := rfl
@[simp] theorem State.modPort_flying : (s.modPort p f).flying = s.flying := rfl
@[simp] theorem State.modPort_record (i : Nat) : (s.modPort p f).record? i = s.record? i := rfl
@[simp] theorem State.modPort_driveJob : (s.modPort p f).driveJob = s.driveJob := rfl

end modPortLaws

/-! ## modConf -/

section modConfLaws
variable (s : State) (st : Station) (f : Conformance → Conformance)

@[simp] theorem State.modConf_por : (s.modConf st f).por = s.por := rfl
@[simp] theorem State.modConf_baud : (s.modConf st f).baud = s.baud := rfl
@[simp] theorem State.modConf_hold : (s.modConf st f).hold = s.hold := rfl
@[simp] theorem State.modConf_restartLine : (s.modConf st f).restartLine = s.restartLine := rfl
@[simp] theorem State.modConf_mode : (s.modConf st f).mode = s.mode := rfl
@[simp] theorem State.modConf_time : (s.modConf st f).time = s.time := rfl
@[simp] theorem State.modConf_scanReady : (s.modConf st f).scanReady = s.scanReady := rfl
@[simp] theorem State.modConf_firstValueExpiry : (s.modConf st f).firstValueExpiry = s.firstValueExpiry := rfl
@[simp] theorem State.modConf_contactors : (s.modConf st f).contactors = s.contactors := rfl
@[simp] theorem State.modConf_slots : (s.modConf st f).slots = s.slots := rfl
@[simp] theorem State.modConf_stations : (s.modConf st f).stations = s.stations := rfl
@[simp] theorem State.modConf_site : (s.modConf st f).site = s.site := rfl
@[simp] theorem State.modConf_queue : (s.modConf st f).queue = s.queue := rfl
@[simp] theorem State.modConf_nextId : (s.modConf st f).nextId = s.nextId := rfl
@[simp] theorem State.modConf_engine : (s.modConf st f).engine = s.engine := rfl
@[simp] theorem State.modConf_permits : (s.modConf st f).permits = s.permits := rfl
@[simp] theorem State.modConf_transmitters : (s.modConf st f).transmitters = s.transmitters := rfl
@[simp] theorem State.modConf_monitor : (s.modConf st f).monitor = s.monitor := rfl
@[simp] theorem State.modConf_faults : (s.modConf st f).faults = s.faults := rfl
@[simp] theorem State.modConf_ports : (s.modConf st f).ports = s.ports := rfl
@[simp] theorem State.modConf_freeDraw : (s.modConf st f).freeDraw = s.freeDraw := rfl
@[simp] theorem State.modConf_pending : (s.modConf st f).pending = s.pending := rfl
@[simp] theorem State.modConf_station (q : Station) : (s.modConf st f).station q = s.station q := rfl
@[simp] theorem State.modConf_permit (q : Station) : (s.modConf st f).permit q = s.permit q := rfl
@[simp] theorem State.modConf_port (q : Station) : (s.modConf st f).port q = s.port q := rfl
@[simp] theorem State.modConf_transmitter (q : Station) : (s.modConf st f).transmitter q = s.transmitter q := rfl
@[simp] theorem State.modConf_contactor (i : Nat) : (s.modConf st f).contactor i = s.contactor i := rfl
@[simp] theorem State.modConf_slot (q : Station) (m : Fin 4) : (s.modConf st f).slot q m = s.slot q m := rfl
@[simp] theorem State.modConf_flying : (s.modConf st f).flying = s.flying := rfl
@[simp] theorem State.modConf_record (i : Nat) : (s.modConf st f).record? i = s.record? i := rfl
@[simp] theorem State.modConf_driveJob : (s.modConf st f).driveJob = s.driveJob := rfl

end modConfLaws

/-! ## modTransmitter -/

section modTransmitterLaws
variable (s : State) (st : Station) (f : TransmitterLink → TransmitterLink)

@[simp] theorem State.modTransmitter_por : (s.modTransmitter st f).por = s.por := rfl
@[simp] theorem State.modTransmitter_baud : (s.modTransmitter st f).baud = s.baud := rfl
@[simp] theorem State.modTransmitter_hold : (s.modTransmitter st f).hold = s.hold := rfl
@[simp] theorem State.modTransmitter_restartLine : (s.modTransmitter st f).restartLine = s.restartLine := rfl
@[simp] theorem State.modTransmitter_mode : (s.modTransmitter st f).mode = s.mode := rfl
@[simp] theorem State.modTransmitter_time : (s.modTransmitter st f).time = s.time := rfl
@[simp] theorem State.modTransmitter_scanReady : (s.modTransmitter st f).scanReady = s.scanReady := rfl
@[simp] theorem State.modTransmitter_firstValueExpiry : (s.modTransmitter st f).firstValueExpiry = s.firstValueExpiry := rfl
@[simp] theorem State.modTransmitter_contactors : (s.modTransmitter st f).contactors = s.contactors := rfl
@[simp] theorem State.modTransmitter_slots : (s.modTransmitter st f).slots = s.slots := rfl
@[simp] theorem State.modTransmitter_stations : (s.modTransmitter st f).stations = s.stations := rfl
@[simp] theorem State.modTransmitter_site : (s.modTransmitter st f).site = s.site := rfl
@[simp] theorem State.modTransmitter_queue : (s.modTransmitter st f).queue = s.queue := rfl
@[simp] theorem State.modTransmitter_nextId : (s.modTransmitter st f).nextId = s.nextId := rfl
@[simp] theorem State.modTransmitter_engine : (s.modTransmitter st f).engine = s.engine := rfl
@[simp] theorem State.modTransmitter_conformance : (s.modTransmitter st f).conformance = s.conformance := rfl
@[simp] theorem State.modTransmitter_permits : (s.modTransmitter st f).permits = s.permits := rfl
@[simp] theorem State.modTransmitter_monitor : (s.modTransmitter st f).monitor = s.monitor := rfl
@[simp] theorem State.modTransmitter_faults : (s.modTransmitter st f).faults = s.faults := rfl
@[simp] theorem State.modTransmitter_ports : (s.modTransmitter st f).ports = s.ports := rfl
@[simp] theorem State.modTransmitter_freeDraw : (s.modTransmitter st f).freeDraw = s.freeDraw := rfl
@[simp] theorem State.modTransmitter_pending : (s.modTransmitter st f).pending = s.pending := rfl
@[simp] theorem State.modTransmitter_station (q : Station) : (s.modTransmitter st f).station q = s.station q := rfl
@[simp] theorem State.modTransmitter_permit (q : Station) : (s.modTransmitter st f).permit q = s.permit q := rfl
@[simp] theorem State.modTransmitter_port (q : Station) : (s.modTransmitter st f).port q = s.port q := rfl
@[simp] theorem State.modTransmitter_conf (q : Station) : (s.modTransmitter st f).conf q = s.conf q := rfl
@[simp] theorem State.modTransmitter_contactor (i : Nat) : (s.modTransmitter st f).contactor i = s.contactor i := rfl
@[simp] theorem State.modTransmitter_slot (q : Station) (m : Fin 4) : (s.modTransmitter st f).slot q m = s.slot q m := rfl
@[simp] theorem State.modTransmitter_flying : (s.modTransmitter st f).flying = s.flying := rfl
@[simp] theorem State.modTransmitter_record (i : Nat) : (s.modTransmitter st f).record? i = s.record? i := rfl
@[simp] theorem State.modTransmitter_driveJob : (s.modTransmitter st f).driveJob = s.driveJob := rfl

end modTransmitterLaws

/-! ## modContactor -/

section modContactorLaws
variable (s : State) (k : Nat) (f : Contactor → Contactor)

@[simp] theorem State.modContactor_por : (s.modContactor k f).por = s.por := rfl
@[simp] theorem State.modContactor_baud : (s.modContactor k f).baud = s.baud := rfl
@[simp] theorem State.modContactor_hold : (s.modContactor k f).hold = s.hold := rfl
@[simp] theorem State.modContactor_restartLine : (s.modContactor k f).restartLine = s.restartLine := rfl
@[simp] theorem State.modContactor_mode : (s.modContactor k f).mode = s.mode := rfl
@[simp] theorem State.modContactor_time : (s.modContactor k f).time = s.time := rfl
@[simp] theorem State.modContactor_scanReady : (s.modContactor k f).scanReady = s.scanReady := rfl
@[simp] theorem State.modContactor_firstValueExpiry : (s.modContactor k f).firstValueExpiry = s.firstValueExpiry := rfl
@[simp] theorem State.modContactor_slots : (s.modContactor k f).slots = s.slots := rfl
@[simp] theorem State.modContactor_stations : (s.modContactor k f).stations = s.stations := rfl
@[simp] theorem State.modContactor_site : (s.modContactor k f).site = s.site := rfl
@[simp] theorem State.modContactor_queue : (s.modContactor k f).queue = s.queue := rfl
@[simp] theorem State.modContactor_nextId : (s.modContactor k f).nextId = s.nextId := rfl
@[simp] theorem State.modContactor_engine : (s.modContactor k f).engine = s.engine := rfl
@[simp] theorem State.modContactor_conformance : (s.modContactor k f).conformance = s.conformance := rfl
@[simp] theorem State.modContactor_permits : (s.modContactor k f).permits = s.permits := rfl
@[simp] theorem State.modContactor_transmitters : (s.modContactor k f).transmitters = s.transmitters := rfl
@[simp] theorem State.modContactor_monitor : (s.modContactor k f).monitor = s.monitor := rfl
@[simp] theorem State.modContactor_faults : (s.modContactor k f).faults = s.faults := rfl
@[simp] theorem State.modContactor_ports : (s.modContactor k f).ports = s.ports := rfl
@[simp] theorem State.modContactor_freeDraw : (s.modContactor k f).freeDraw = s.freeDraw := rfl
@[simp] theorem State.modContactor_pending : (s.modContactor k f).pending = s.pending := rfl
@[simp] theorem State.modContactor_station (q : Station) : (s.modContactor k f).station q = s.station q := rfl
@[simp] theorem State.modContactor_permit (q : Station) : (s.modContactor k f).permit q = s.permit q := rfl
@[simp] theorem State.modContactor_port (q : Station) : (s.modContactor k f).port q = s.port q := rfl
@[simp] theorem State.modContactor_conf (q : Station) : (s.modContactor k f).conf q = s.conf q := rfl
@[simp] theorem State.modContactor_transmitter (q : Station) : (s.modContactor k f).transmitter q = s.transmitter q := rfl
@[simp] theorem State.modContactor_slot (q : Station) (m : Fin 4) : (s.modContactor k f).slot q m = s.slot q m := rfl
@[simp] theorem State.modContactor_flying : (s.modContactor k f).flying = s.flying := rfl
@[simp] theorem State.modContactor_record (i : Nat) : (s.modContactor k f).record? i = s.record? i := rfl
@[simp] theorem State.modContactor_driveJob : (s.modContactor k f).driveJob = s.driveJob := rfl

end modContactorLaws

/-! ## modRecord -/

section modRecordLaws
variable (s : State) (id : Nat) (f : TRecord → TRecord)

@[simp] theorem State.modRecord_por : (s.modRecord id f).por = s.por := rfl
@[simp] theorem State.modRecord_baud : (s.modRecord id f).baud = s.baud := rfl
@[simp] theorem State.modRecord_hold : (s.modRecord id f).hold = s.hold := rfl
@[simp] theorem State.modRecord_restartLine : (s.modRecord id f).restartLine = s.restartLine := rfl
@[simp] theorem State.modRecord_mode : (s.modRecord id f).mode = s.mode := rfl
@[simp] theorem State.modRecord_time : (s.modRecord id f).time = s.time := rfl
@[simp] theorem State.modRecord_scanReady : (s.modRecord id f).scanReady = s.scanReady := rfl
@[simp] theorem State.modRecord_firstValueExpiry : (s.modRecord id f).firstValueExpiry = s.firstValueExpiry := rfl
@[simp] theorem State.modRecord_contactors : (s.modRecord id f).contactors = s.contactors := rfl
@[simp] theorem State.modRecord_slots : (s.modRecord id f).slots = s.slots := rfl
@[simp] theorem State.modRecord_stations : (s.modRecord id f).stations = s.stations := rfl
@[simp] theorem State.modRecord_site : (s.modRecord id f).site = s.site := rfl
@[simp] theorem State.modRecord_nextId : (s.modRecord id f).nextId = s.nextId := rfl
@[simp] theorem State.modRecord_engine : (s.modRecord id f).engine = s.engine := rfl
@[simp] theorem State.modRecord_conformance : (s.modRecord id f).conformance = s.conformance := rfl
@[simp] theorem State.modRecord_permits : (s.modRecord id f).permits = s.permits := rfl
@[simp] theorem State.modRecord_transmitters : (s.modRecord id f).transmitters = s.transmitters := rfl
@[simp] theorem State.modRecord_monitor : (s.modRecord id f).monitor = s.monitor := rfl
@[simp] theorem State.modRecord_faults : (s.modRecord id f).faults = s.faults := rfl
@[simp] theorem State.modRecord_ports : (s.modRecord id f).ports = s.ports := rfl
@[simp] theorem State.modRecord_freeDraw : (s.modRecord id f).freeDraw = s.freeDraw := rfl
@[simp] theorem State.modRecord_pending : (s.modRecord id f).pending = s.pending := rfl
@[simp] theorem State.modRecord_station (q : Station) : (s.modRecord id f).station q = s.station q := rfl
@[simp] theorem State.modRecord_permit (q : Station) : (s.modRecord id f).permit q = s.permit q := rfl
@[simp] theorem State.modRecord_port (q : Station) : (s.modRecord id f).port q = s.port q := rfl
@[simp] theorem State.modRecord_conf (q : Station) : (s.modRecord id f).conf q = s.conf q := rfl
@[simp] theorem State.modRecord_transmitter (q : Station) : (s.modRecord id f).transmitter q = s.transmitter q := rfl
@[simp] theorem State.modRecord_contactor (i : Nat) : (s.modRecord id f).contactor i = s.contactor i := rfl
@[simp] theorem State.modRecord_slot (q : Station) (m : Fin 4) : (s.modRecord id f).slot q m = s.slot q m := rfl
@[simp] theorem State.modRecord_driveJob : (s.modRecord id f).driveJob = s.driveJob := rfl

end modRecordLaws

/-! ## advanceTo -/

section advanceToLaws
variable (s : State) (t : Nat)

@[simp] theorem State.advanceTo_por : (s.advanceTo t).por = s.por := rfl
@[simp] theorem State.advanceTo_baud : (s.advanceTo t).baud = s.baud := rfl
@[simp] theorem State.advanceTo_hold : (s.advanceTo t).hold = s.hold := rfl
@[simp] theorem State.advanceTo_restartLine : (s.advanceTo t).restartLine = s.restartLine := rfl
@[simp] theorem State.advanceTo_mode : (s.advanceTo t).mode = s.mode := rfl
@[simp] theorem State.advanceTo_scanReady : (s.advanceTo t).scanReady = s.scanReady := rfl
@[simp] theorem State.advanceTo_firstValueExpiry : (s.advanceTo t).firstValueExpiry = s.firstValueExpiry := rfl
@[simp] theorem State.advanceTo_contactors : (s.advanceTo t).contactors = s.contactors := rfl
@[simp] theorem State.advanceTo_slots : (s.advanceTo t).slots = s.slots := rfl
@[simp] theorem State.advanceTo_stations : (s.advanceTo t).stations = s.stations := rfl
@[simp] theorem State.advanceTo_site : (s.advanceTo t).site = s.site := rfl
@[simp] theorem State.advanceTo_queue : (s.advanceTo t).queue = s.queue := rfl
@[simp] theorem State.advanceTo_nextId : (s.advanceTo t).nextId = s.nextId := rfl
@[simp] theorem State.advanceTo_engine : (s.advanceTo t).engine = s.engine := rfl
@[simp] theorem State.advanceTo_conformance : (s.advanceTo t).conformance = s.conformance := rfl
@[simp] theorem State.advanceTo_permits : (s.advanceTo t).permits = s.permits := rfl
@[simp] theorem State.advanceTo_transmitters : (s.advanceTo t).transmitters = s.transmitters := rfl
@[simp] theorem State.advanceTo_monitor : (s.advanceTo t).monitor = s.monitor := rfl
@[simp] theorem State.advanceTo_faults : (s.advanceTo t).faults = s.faults := rfl
@[simp] theorem State.advanceTo_ports : (s.advanceTo t).ports = s.ports := rfl
@[simp] theorem State.advanceTo_freeDraw : (s.advanceTo t).freeDraw = s.freeDraw := rfl
@[simp] theorem State.advanceTo_pending : (s.advanceTo t).pending = s.pending := rfl
@[simp] theorem State.advanceTo_station (q : Station) : (s.advanceTo t).station q = s.station q := rfl
@[simp] theorem State.advanceTo_permit (q : Station) : (s.advanceTo t).permit q = s.permit q := rfl
@[simp] theorem State.advanceTo_port (q : Station) : (s.advanceTo t).port q = s.port q := rfl
@[simp] theorem State.advanceTo_conf (q : Station) : (s.advanceTo t).conf q = s.conf q := rfl
@[simp] theorem State.advanceTo_transmitter (q : Station) : (s.advanceTo t).transmitter q = s.transmitter q := rfl
@[simp] theorem State.advanceTo_contactor (i : Nat) : (s.advanceTo t).contactor i = s.contactor i := rfl
@[simp] theorem State.advanceTo_slot (q : Station) (m : Fin 4) : (s.advanceTo t).slot q m = s.slot q m := rfl
@[simp] theorem State.advanceTo_flying : (s.advanceTo t).flying = s.flying := rfl
@[simp] theorem State.advanceTo_record (i : Nat) : (s.advanceTo t).record? i = s.record? i := rfl
@[simp] theorem State.advanceTo_driveJob : (s.advanceTo t).driveJob = s.driveJob := rfl

end advanceToLaws

/-! ## setSlot -/

section setSlotLaws
variable (s : State) (st : Station) (n : Fin 4) (p : Option Pattern)

@[simp] theorem State.setSlot_por : (s.setSlot st n p).por = s.por := rfl
@[simp] theorem State.setSlot_baud : (s.setSlot st n p).baud = s.baud := rfl
@[simp] theorem State.setSlot_hold : (s.setSlot st n p).hold = s.hold := rfl
@[simp] theorem State.setSlot_restartLine : (s.setSlot st n p).restartLine = s.restartLine := rfl
@[simp] theorem State.setSlot_mode : (s.setSlot st n p).mode = s.mode := rfl
@[simp] theorem State.setSlot_time : (s.setSlot st n p).time = s.time := rfl
@[simp] theorem State.setSlot_scanReady : (s.setSlot st n p).scanReady = s.scanReady := rfl
@[simp] theorem State.setSlot_firstValueExpiry : (s.setSlot st n p).firstValueExpiry = s.firstValueExpiry := rfl
@[simp] theorem State.setSlot_contactors : (s.setSlot st n p).contactors = s.contactors := rfl
@[simp] theorem State.setSlot_stations : (s.setSlot st n p).stations = s.stations := rfl
@[simp] theorem State.setSlot_site : (s.setSlot st n p).site = s.site := rfl
@[simp] theorem State.setSlot_queue : (s.setSlot st n p).queue = s.queue := rfl
@[simp] theorem State.setSlot_nextId : (s.setSlot st n p).nextId = s.nextId := rfl
@[simp] theorem State.setSlot_engine : (s.setSlot st n p).engine = s.engine := rfl
@[simp] theorem State.setSlot_conformance : (s.setSlot st n p).conformance = s.conformance := rfl
@[simp] theorem State.setSlot_permits : (s.setSlot st n p).permits = s.permits := rfl
@[simp] theorem State.setSlot_transmitters : (s.setSlot st n p).transmitters = s.transmitters := rfl
@[simp] theorem State.setSlot_monitor : (s.setSlot st n p).monitor = s.monitor := rfl
@[simp] theorem State.setSlot_faults : (s.setSlot st n p).faults = s.faults := rfl
@[simp] theorem State.setSlot_ports : (s.setSlot st n p).ports = s.ports := rfl
@[simp] theorem State.setSlot_freeDraw : (s.setSlot st n p).freeDraw = s.freeDraw := rfl
@[simp] theorem State.setSlot_pending : (s.setSlot st n p).pending = s.pending := rfl
@[simp] theorem State.setSlot_station (q : Station) : (s.setSlot st n p).station q = s.station q := rfl
@[simp] theorem State.setSlot_permit (q : Station) : (s.setSlot st n p).permit q = s.permit q := rfl
@[simp] theorem State.setSlot_port (q : Station) : (s.setSlot st n p).port q = s.port q := rfl
@[simp] theorem State.setSlot_conf (q : Station) : (s.setSlot st n p).conf q = s.conf q := rfl
@[simp] theorem State.setSlot_transmitter (q : Station) : (s.setSlot st n p).transmitter q = s.transmitter q := rfl
@[simp] theorem State.setSlot_contactor (i : Nat) : (s.setSlot st n p).contactor i = s.contactor i := rfl
@[simp] theorem State.setSlot_flying : (s.setSlot st n p).flying = s.flying := rfl
@[simp] theorem State.setSlot_record (i : Nat) : (s.setSlot st n p).record? i = s.record? i := rfl
@[simp] theorem State.setSlot_driveJob : (s.setSlot st n p).driveJob = s.driveJob := rfl

end setSlotLaws

/-! ## makePermit -/

section makePermitLaws
variable (s : State) (st : Station) (output : Nat)

@[simp] theorem State.makePermit_por : (s.makePermit st output).por = s.por := rfl
@[simp] theorem State.makePermit_baud : (s.makePermit st output).baud = s.baud := rfl
@[simp] theorem State.makePermit_hold : (s.makePermit st output).hold = s.hold := rfl
@[simp] theorem State.makePermit_restartLine : (s.makePermit st output).restartLine = s.restartLine := rfl
@[simp] theorem State.makePermit_mode : (s.makePermit st output).mode = s.mode := rfl
@[simp] theorem State.makePermit_time : (s.makePermit st output).time = s.time := rfl
@[simp] theorem State.makePermit_scanReady : (s.makePermit st output).scanReady = s.scanReady := rfl
@[simp] theorem State.makePermit_firstValueExpiry : (s.makePermit st output).firstValueExpiry = s.firstValueExpiry := rfl
@[simp] theorem State.makePermit_contactors : (s.makePermit st output).contactors = s.contactors := rfl
@[simp] theorem State.makePermit_slots : (s.makePermit st output).slots = s.slots := rfl
@[simp] theorem State.makePermit_stations : (s.makePermit st output).stations = s.stations := rfl
@[simp] theorem State.makePermit_site : (s.makePermit st output).site = s.site := rfl
@[simp] theorem State.makePermit_queue : (s.makePermit st output).queue = s.queue := rfl
@[simp] theorem State.makePermit_nextId : (s.makePermit st output).nextId = s.nextId := rfl
@[simp] theorem State.makePermit_engine : (s.makePermit st output).engine = s.engine := rfl
@[simp] theorem State.makePermit_conformance : (s.makePermit st output).conformance = s.conformance := rfl
@[simp] theorem State.makePermit_permits : (s.makePermit st output).permits = s.permits := rfl
@[simp] theorem State.makePermit_monitor : (s.makePermit st output).monitor = s.monitor := rfl
@[simp] theorem State.makePermit_faults : (s.makePermit st output).faults = s.faults := rfl
@[simp] theorem State.makePermit_ports : (s.makePermit st output).ports = s.ports := rfl
@[simp] theorem State.makePermit_freeDraw : (s.makePermit st output).freeDraw = s.freeDraw := rfl
@[simp] theorem State.makePermit_pending : (s.makePermit st output).pending = s.pending := rfl
@[simp] theorem State.makePermit_station (q : Station) : (s.makePermit st output).station q = s.station q := rfl
@[simp] theorem State.makePermit_permit (q : Station) : (s.makePermit st output).permit q = s.permit q := rfl
@[simp] theorem State.makePermit_port (q : Station) : (s.makePermit st output).port q = s.port q := rfl
@[simp] theorem State.makePermit_conf (q : Station) : (s.makePermit st output).conf q = s.conf q := rfl
@[simp] theorem State.makePermit_contactor (i : Nat) : (s.makePermit st output).contactor i = s.contactor i := rfl
@[simp] theorem State.makePermit_slot (q : Station) (m : Fin 4) : (s.makePermit st output).slot q m = s.slot q m := rfl
@[simp] theorem State.makePermit_flying : (s.makePermit st output).flying = s.flying := rfl
@[simp] theorem State.makePermit_record (i : Nat) : (s.makePermit st output).record? i = s.record? i := rfl
@[simp] theorem State.makePermit_driveJob : (s.makePermit st output).driveJob = s.driveJob := rfl

end makePermitLaws

/-! ## notify -/

section notifyLaws
variable (s : State) (p : Station) (n : Notice)

@[simp] theorem State.notify_por : (s.notify p n).por = s.por := rfl
@[simp] theorem State.notify_baud : (s.notify p n).baud = s.baud := rfl
@[simp] theorem State.notify_hold : (s.notify p n).hold = s.hold := rfl
@[simp] theorem State.notify_restartLine : (s.notify p n).restartLine = s.restartLine := rfl
@[simp] theorem State.notify_mode : (s.notify p n).mode = s.mode := rfl
@[simp] theorem State.notify_time : (s.notify p n).time = s.time := rfl
@[simp] theorem State.notify_scanReady : (s.notify p n).scanReady = s.scanReady := rfl
@[simp] theorem State.notify_firstValueExpiry : (s.notify p n).firstValueExpiry = s.firstValueExpiry := rfl
@[simp] theorem State.notify_contactors : (s.notify p n).contactors = s.contactors := rfl
@[simp] theorem State.notify_slots : (s.notify p n).slots = s.slots := rfl
@[simp] theorem State.notify_stations : (s.notify p n).stations = s.stations := rfl
@[simp] theorem State.notify_site : (s.notify p n).site = s.site := rfl
@[simp] theorem State.notify_queue : (s.notify p n).queue = s.queue := rfl
@[simp] theorem State.notify_nextId : (s.notify p n).nextId = s.nextId := rfl
@[simp] theorem State.notify_engine : (s.notify p n).engine = s.engine := rfl
@[simp] theorem State.notify_conformance : (s.notify p n).conformance = s.conformance := rfl
@[simp] theorem State.notify_permits : (s.notify p n).permits = s.permits := rfl
@[simp] theorem State.notify_transmitters : (s.notify p n).transmitters = s.transmitters := rfl
@[simp] theorem State.notify_monitor : (s.notify p n).monitor = s.monitor := rfl
@[simp] theorem State.notify_faults : (s.notify p n).faults = s.faults := rfl
@[simp] theorem State.notify_freeDraw : (s.notify p n).freeDraw = s.freeDraw := rfl
@[simp] theorem State.notify_pending : (s.notify p n).pending = s.pending := rfl
@[simp] theorem State.notify_station (q : Station) : (s.notify p n).station q = s.station q := rfl
@[simp] theorem State.notify_permit (q : Station) : (s.notify p n).permit q = s.permit q := rfl
@[simp] theorem State.notify_conf (q : Station) : (s.notify p n).conf q = s.conf q := rfl
@[simp] theorem State.notify_transmitter (q : Station) : (s.notify p n).transmitter q = s.transmitter q := rfl
@[simp] theorem State.notify_contactor (i : Nat) : (s.notify p n).contactor i = s.contactor i := rfl
@[simp] theorem State.notify_slot (q : Station) (m : Fin 4) : (s.notify p n).slot q m = s.slot q m := rfl
@[simp] theorem State.notify_flying : (s.notify p n).flying = s.flying := rfl
@[simp] theorem State.notify_record (i : Nat) : (s.notify p n).record? i = s.record? i := rfl
@[simp] theorem State.notify_driveJob : (s.notify p n).driveJob = s.driveJob := rfl

end notifyLaws

/-! ## begun -/

section begunLaws
variable (s : State) (p : Station)

@[simp] theorem State.begun_por : (s.begun p).por = s.por := rfl
@[simp] theorem State.begun_baud : (s.begun p).baud = s.baud := rfl
@[simp] theorem State.begun_hold : (s.begun p).hold = s.hold := rfl
@[simp] theorem State.begun_restartLine : (s.begun p).restartLine = s.restartLine := rfl
@[simp] theorem State.begun_mode : (s.begun p).mode = s.mode := rfl
@[simp] theorem State.begun_time : (s.begun p).time = s.time := rfl
@[simp] theorem State.begun_scanReady : (s.begun p).scanReady = s.scanReady := rfl
@[simp] theorem State.begun_firstValueExpiry : (s.begun p).firstValueExpiry = s.firstValueExpiry := rfl
@[simp] theorem State.begun_contactors : (s.begun p).contactors = s.contactors := rfl
@[simp] theorem State.begun_slots : (s.begun p).slots = s.slots := rfl
@[simp] theorem State.begun_stations : (s.begun p).stations = s.stations := rfl
@[simp] theorem State.begun_site : (s.begun p).site = s.site := rfl
@[simp] theorem State.begun_queue : (s.begun p).queue = s.queue := rfl
@[simp] theorem State.begun_nextId : (s.begun p).nextId = s.nextId := rfl
@[simp] theorem State.begun_engine : (s.begun p).engine = s.engine := rfl
@[simp] theorem State.begun_conformance : (s.begun p).conformance = s.conformance := rfl
@[simp] theorem State.begun_permits : (s.begun p).permits = s.permits := rfl
@[simp] theorem State.begun_transmitters : (s.begun p).transmitters = s.transmitters := rfl
@[simp] theorem State.begun_monitor : (s.begun p).monitor = s.monitor := rfl
@[simp] theorem State.begun_faults : (s.begun p).faults = s.faults := rfl
@[simp] theorem State.begun_freeDraw : (s.begun p).freeDraw = s.freeDraw := rfl
@[simp] theorem State.begun_pending : (s.begun p).pending = s.pending := rfl
@[simp] theorem State.begun_station (q : Station) : (s.begun p).station q = s.station q := rfl
@[simp] theorem State.begun_permit (q : Station) : (s.begun p).permit q = s.permit q := rfl
@[simp] theorem State.begun_conf (q : Station) : (s.begun p).conf q = s.conf q := rfl
@[simp] theorem State.begun_transmitter (q : Station) : (s.begun p).transmitter q = s.transmitter q := rfl
@[simp] theorem State.begun_contactor (i : Nat) : (s.begun p).contactor i = s.contactor i := rfl
@[simp] theorem State.begun_slot (q : Station) (m : Fin 4) : (s.begun p).slot q m = s.slot q m := rfl
@[simp] theorem State.begun_flying : (s.begun p).flying = s.flying := rfl
@[simp] theorem State.begun_record (i : Nat) : (s.begun p).record? i = s.record? i := rfl
@[simp] theorem State.begun_driveJob : (s.begun p).driveJob = s.driveJob := rfl

end begunLaws

/-! ## answer -/

section answerLaws
variable (s : State) (p : Station) (kind tag : Byte) (code : ResultCode) (fields : List Byte)

@[simp] theorem State.answer_por : (s.answer p kind tag code fields).por = s.por := rfl
@[simp] theorem State.answer_baud : (s.answer p kind tag code fields).baud = s.baud := rfl
@[simp] theorem State.answer_hold : (s.answer p kind tag code fields).hold = s.hold := rfl
@[simp] theorem State.answer_restartLine : (s.answer p kind tag code fields).restartLine = s.restartLine := rfl
@[simp] theorem State.answer_mode : (s.answer p kind tag code fields).mode = s.mode := rfl
@[simp] theorem State.answer_time : (s.answer p kind tag code fields).time = s.time := rfl
@[simp] theorem State.answer_scanReady : (s.answer p kind tag code fields).scanReady = s.scanReady := rfl
@[simp] theorem State.answer_firstValueExpiry : (s.answer p kind tag code fields).firstValueExpiry = s.firstValueExpiry := rfl
@[simp] theorem State.answer_contactors : (s.answer p kind tag code fields).contactors = s.contactors := rfl
@[simp] theorem State.answer_slots : (s.answer p kind tag code fields).slots = s.slots := rfl
@[simp] theorem State.answer_stations : (s.answer p kind tag code fields).stations = s.stations := rfl
@[simp] theorem State.answer_site : (s.answer p kind tag code fields).site = s.site := rfl
@[simp] theorem State.answer_queue : (s.answer p kind tag code fields).queue = s.queue := rfl
@[simp] theorem State.answer_nextId : (s.answer p kind tag code fields).nextId = s.nextId := rfl
@[simp] theorem State.answer_engine : (s.answer p kind tag code fields).engine = s.engine := rfl
@[simp] theorem State.answer_conformance : (s.answer p kind tag code fields).conformance = s.conformance := rfl
@[simp] theorem State.answer_permits : (s.answer p kind tag code fields).permits = s.permits := rfl
@[simp] theorem State.answer_transmitters : (s.answer p kind tag code fields).transmitters = s.transmitters := rfl
@[simp] theorem State.answer_monitor : (s.answer p kind tag code fields).monitor = s.monitor := rfl
@[simp] theorem State.answer_faults : (s.answer p kind tag code fields).faults = s.faults := rfl
@[simp] theorem State.answer_freeDraw : (s.answer p kind tag code fields).freeDraw = s.freeDraw := rfl
@[simp] theorem State.answer_pending : (s.answer p kind tag code fields).pending = s.pending := rfl
@[simp] theorem State.answer_station (q : Station) : (s.answer p kind tag code fields).station q = s.station q := rfl
@[simp] theorem State.answer_permit (q : Station) : (s.answer p kind tag code fields).permit q = s.permit q := rfl
@[simp] theorem State.answer_conf (q : Station) : (s.answer p kind tag code fields).conf q = s.conf q := rfl
@[simp] theorem State.answer_transmitter (q : Station) : (s.answer p kind tag code fields).transmitter q = s.transmitter q := rfl
@[simp] theorem State.answer_contactor (i : Nat) : (s.answer p kind tag code fields).contactor i = s.contactor i := rfl
@[simp] theorem State.answer_slot (q : Station) (m : Fin 4) : (s.answer p kind tag code fields).slot q m = s.slot q m := rfl
@[simp] theorem State.answer_flying : (s.answer p kind tag code fields).flying = s.flying := rfl
@[simp] theorem State.answer_record (i : Nat) : (s.answer p kind tag code fields).record? i = s.record? i := rfl
@[simp] theorem State.answer_driveJob : (s.answer p kind tag code fields).driveJob = s.driveJob := rfl

end answerLaws

/-! ## reply -/

section replyLaws
variable (s : State) (p : Station) (k : CmdKind) (tag : Byte) (code : ResultCode) (fields : List Byte)

@[simp] theorem State.reply_por : (s.reply p k tag code fields).por = s.por := rfl
@[simp] theorem State.reply_baud : (s.reply p k tag code fields).baud = s.baud := rfl
@[simp] theorem State.reply_hold : (s.reply p k tag code fields).hold = s.hold := rfl
@[simp] theorem State.reply_restartLine : (s.reply p k tag code fields).restartLine = s.restartLine := rfl
@[simp] theorem State.reply_mode : (s.reply p k tag code fields).mode = s.mode := rfl
@[simp] theorem State.reply_time : (s.reply p k tag code fields).time = s.time := rfl
@[simp] theorem State.reply_scanReady : (s.reply p k tag code fields).scanReady = s.scanReady := rfl
@[simp] theorem State.reply_firstValueExpiry : (s.reply p k tag code fields).firstValueExpiry = s.firstValueExpiry := rfl
@[simp] theorem State.reply_contactors : (s.reply p k tag code fields).contactors = s.contactors := rfl
@[simp] theorem State.reply_slots : (s.reply p k tag code fields).slots = s.slots := rfl
@[simp] theorem State.reply_stations : (s.reply p k tag code fields).stations = s.stations := rfl
@[simp] theorem State.reply_site : (s.reply p k tag code fields).site = s.site := rfl
@[simp] theorem State.reply_queue : (s.reply p k tag code fields).queue = s.queue := rfl
@[simp] theorem State.reply_nextId : (s.reply p k tag code fields).nextId = s.nextId := rfl
@[simp] theorem State.reply_engine : (s.reply p k tag code fields).engine = s.engine := rfl
@[simp] theorem State.reply_conformance : (s.reply p k tag code fields).conformance = s.conformance := rfl
@[simp] theorem State.reply_permits : (s.reply p k tag code fields).permits = s.permits := rfl
@[simp] theorem State.reply_transmitters : (s.reply p k tag code fields).transmitters = s.transmitters := rfl
@[simp] theorem State.reply_monitor : (s.reply p k tag code fields).monitor = s.monitor := rfl
@[simp] theorem State.reply_faults : (s.reply p k tag code fields).faults = s.faults := rfl
@[simp] theorem State.reply_freeDraw : (s.reply p k tag code fields).freeDraw = s.freeDraw := rfl
@[simp] theorem State.reply_pending : (s.reply p k tag code fields).pending = s.pending := rfl
@[simp] theorem State.reply_station (q : Station) : (s.reply p k tag code fields).station q = s.station q := rfl
@[simp] theorem State.reply_permit (q : Station) : (s.reply p k tag code fields).permit q = s.permit q := rfl
@[simp] theorem State.reply_conf (q : Station) : (s.reply p k tag code fields).conf q = s.conf q := rfl
@[simp] theorem State.reply_transmitter (q : Station) : (s.reply p k tag code fields).transmitter q = s.transmitter q := rfl
@[simp] theorem State.reply_contactor (i : Nat) : (s.reply p k tag code fields).contactor i = s.contactor i := rfl
@[simp] theorem State.reply_slot (q : Station) (m : Fin 4) : (s.reply p k tag code fields).slot q m = s.slot q m := rfl
@[simp] theorem State.reply_flying : (s.reply p k tag code fields).flying = s.flying := rfl
@[simp] theorem State.reply_record (i : Nat) : (s.reply p k tag code fields).record? i = s.record? i := rfl
@[simp] theorem State.reply_driveJob : (s.reply p k tag code fields).driveJob = s.driveJob := rfl

end replyLaws

@[simp] theorem State.modStation_station_same (s : State) (st : Station) (f : StationRecord → StationRecord) :
    (s.modStation st f).station st = f (s.station st) := PerStation.get_modify_same _ _ _

@[simp] theorem State.modStation_station_of_ne (s : State) {st q : Station} (f : StationRecord → StationRecord) (h : q ≠ st) :
    (s.modStation st f).station q = s.station q := PerStation.get_modify_of_ne _ _ _ h

theorem State.modStation_station (s : State) (st q : Station) (f : StationRecord → StationRecord) :
    (s.modStation st f).station q = if q = st then f (s.station q) else s.station q := PerStation.get_modify _ _ _ _

@[simp] theorem State.modPermit_permit_same (s : State) (st : Station) (f : Permit → Permit) :
    (s.modPermit st f).permit st = f (s.permit st) := PerStation.get_modify_same _ _ _

@[simp] theorem State.modPermit_permit_of_ne (s : State) {st q : Station} (f : Permit → Permit) (h : q ≠ st) :
    (s.modPermit st f).permit q = s.permit q := PerStation.get_modify_of_ne _ _ _ h

theorem State.modPermit_permit (s : State) (st q : Station) (f : Permit → Permit) :
    (s.modPermit st f).permit q = if q = st then f (s.permit q) else s.permit q := PerStation.get_modify _ _ _ _

@[simp] theorem State.modPort_port_same (s : State) (st : Station) (f : Port → Port) :
    (s.modPort st f).port st = f (s.port st) := PerStation.get_modify_same _ _ _

@[simp] theorem State.modPort_port_of_ne (s : State) {st q : Station} (f : Port → Port) (h : q ≠ st) :
    (s.modPort st f).port q = s.port q := PerStation.get_modify_of_ne _ _ _ h

theorem State.modPort_port (s : State) (st q : Station) (f : Port → Port) :
    (s.modPort st f).port q = if q = st then f (s.port q) else s.port q := PerStation.get_modify _ _ _ _

@[simp] theorem State.modConf_conf_same (s : State) (st : Station) (f : Conformance → Conformance) :
    (s.modConf st f).conf st = f (s.conf st) := PerStation.get_modify_same _ _ _

@[simp] theorem State.modConf_conf_of_ne (s : State) {st q : Station} (f : Conformance → Conformance) (h : q ≠ st) :
    (s.modConf st f).conf q = s.conf q := PerStation.get_modify_of_ne _ _ _ h

theorem State.modConf_conf (s : State) (st q : Station) (f : Conformance → Conformance) :
    (s.modConf st f).conf q = if q = st then f (s.conf q) else s.conf q := PerStation.get_modify _ _ _ _

@[simp] theorem State.modTransmitter_transmitter_same (s : State) (st : Station) (f : TransmitterLink → TransmitterLink) :
    (s.modTransmitter st f).transmitter st = f (s.transmitter st) := PerStation.get_modify_same _ _ _

@[simp] theorem State.modTransmitter_transmitter_of_ne (s : State) {st q : Station} (f : TransmitterLink → TransmitterLink) (h : q ≠ st) :
    (s.modTransmitter st f).transmitter q = s.transmitter q := PerStation.get_modify_of_ne _ _ _ h

theorem State.modTransmitter_transmitter (s : State) (st q : Station) (f : TransmitterLink → TransmitterLink) :
    (s.modTransmitter st f).transmitter q = if q = st then f (s.transmitter q) else s.transmitter q := PerStation.get_modify _ _ _ _

theorem State.modContactor_contactor (s : State) (k i : Nat) (f : Contactor → Contactor) :
    (s.modContactor k f).contactor i
      = if i = k ∧ k < s.contactors.length then f (s.contactor i) else s.contactor i := by
  simp only [State.contactor, State.modContactor, List.getD_eq_getElem?_getD, List.getElem?_modify]
  by_cases h : k = i
  · subst h
    by_cases hk : k < s.contactors.length
    · simp [hk]
    · simp [hk]
  · have h' : ¬ i = k := fun e => h e.symm
    simp [h, h']

@[simp] theorem State.modContactor_contactor_of_ne (s : State) {k i : Nat} (f : Contactor → Contactor)
    (h : i ≠ k) : (s.modContactor k f).contactor i = s.contactor i := by
  simp [State.modContactor_contactor, h]

theorem State.modContactor_contactor_same (s : State) {k : Nat} (f : Contactor → Contactor)
    (h : k < s.contactors.length) : (s.modContactor k f).contactor k = f (s.contactor k) := by
  simp [State.modContactor_contactor, h]

theorem State.modContactor_length (s : State) (k : Nat) (f : Contactor → Contactor) :
    (s.modContactor k f).contactors.length = s.contactors.length := by
  simp [State.modContactor]

@[simp] theorem State.advanceTo_time (s : State) (t : Nat) : (s.advanceTo t).time = max s.time t := rfl

theorem State.notify_port (s : State) (p q : Station) (n : Notice) :
    (s.notify p n).port q = if q = p then (s.port q).handed n else s.port q :=
  State.modPort_port _ _ _ _

theorem State.reply_port (s : State) (p q : Station) (k : CmdKind) (tag : Byte) (code : ResultCode)
    (fields : List Byte) :
    (s.reply p k tag code fields).port q
      = if q = p then (s.port q).answered (replyKind k) tag code fields else s.port q :=
  State.modPort_port _ _ _ _

end Sys2Proof.Machine
end

