-- ==== Sys2Proof/Laws/Ops.lean ====
section
/-! SUPPORT. For each shared operation, what it can do, said once: when a station-port command is
executed and what its port answers, what a fault, a recomputation, a change of a contactor, a drive
start and the end of a record leave as they were. -/

namespace Sys2Proof.Machine

/-! ## What the part sends -/

/-- Table 11.4, R166: a contactor takes six bytes of a reply. -/
@[simp] theorem contactorBytes_length (now : Nat) (c : Contactor) :
    (contactorBytes now c).length = 6 := by
  unfold contactorBytes opt2
  cases c.driveStart <;> rfl

/-- Log entry 30: the three places of a state code are three of the bits 2, 3, 6 and 7. -/
theorem statePlaces_mem_nodup (n : Fin 24) :
    [(statePlaces n).1, (statePlaces n).2.1, (statePlaces n).2.2].Nodup
    ∧ ∀ i ∈ [(statePlaces n).1, (statePlaces n).2.1, (statePlaces n).2.2], i ∈ [2, 3, 6, 7] := by
  revert n
  decide

/-! ## The beginning of a command -/

section Begun
variable (s : State) (p : Station)

@[simp] theorem begun_mode : (s.begun p).mode = s.mode := rfl
@[simp] theorem begun_time : (s.begun p).time = s.time := rfl
@[simp] theorem begun_por : (s.begun p).por = s.por := rfl
@[simp] theorem begun_hold : (s.begun p).hold = s.hold := rfl
@[simp] theorem begun_engine : (s.begun p).engine = s.engine := rfl
@[simp] theorem begun_queue : (s.begun p).queue = s.queue := rfl
@[simp] theorem begun_scanReady : (s.begun p).scanReady = s.scanReady := rfl
@[simp] theorem begun_driveJob : (s.begun p).driveJob = s.driveJob := rfl
@[simp] theorem begun_station (q : Station) : (s.begun p).station q = s.station q := rfl
@[simp] theorem begun_permit (q : Station) : (s.begun p).permit q = s.permit q := rfl
@[simp] theorem begun_conf (q : Station) : (s.begun p).conf q = s.conf q := rfl
@[simp] theorem begun_slot (q : Station) (n : Fin 4) : (s.begun p).slot q n = s.slot q n := rfl
@[simp] theorem begun_contactor (k : Nat) : (s.begun p).contactor k = s.contactor k := rfl
@[simp] theorem begun_record? (id : Nat) : (s.begun p).record? id = s.record? id := rfl

@[simp] theorem begun_port_state (q : Station) : ((s.begun p).port q).state = (s.port q).state := by
  cases p <;> cases q <;> rfl

@[simp] theorem begun_localLine (q : Station) :
    ((s.begun p).port q).localLine = (s.port q).localLine := by
  cases p <;> cases q <;> rfl

@[simp] theorem begun_executing (q : Station) :
    ((s.begun p).port q).executing = (s.port q).executing := by
  cases p <;> cases q <;> rfl

end Begun

section Begins
variable {s : State} {p : Station} {body : List Byte}

theorem begins_por (h : s.begins p body = true) : s.por = false := by
  simp [State.begins] at h
  exact h.1.1.1

theorem begins_fits (h : s.begins p body = true) : bodyFits body = true := by
  simp [State.begins] at h
  exact h.1.1.2

theorem begins_canBegin (h : s.begins p body = true) :
    (s.port p).executing = none ∧ (s.port p).reply = none := by
  simp [State.begins, Port.canBegin] at h
  exact h.1.2

/-- A command that begins at once is executed on the state with its record off the queue. -/
theorem submit_of_begins (effect : State → State) (h : s.begins p body = true) :
    s.submit p body effect = effect (s.begun p) := by
  simp [State.submit, begins_por h, h]

/-- A command that cannot begin is a record of the queue. -/
theorem submit_of_not_begins (effect : State → State) (hp : s.por = false)
    (h : s.begins p body = false) : s.submit p body effect = s.queueRecord p body := by
  simp [State.submit, hp, h]

theorem gate_of_open {k : CmdKind} {tag : Byte} (own : State → State)
    (h : (s.port p).state = .isOpen) : s.gate p k tag own = own s := by
  simp [State.gate, h]

/-- A command that begins at once on an OPEN port goes to its own checks. -/
theorem command_of_takes {k : CmdKind} {tag : Byte} {i : Instr} (own : State → State)
    (h : s.takes p i) : s.command p k tag i own = own (s.begun p) := by
  rw [State.command, submit_of_begins _ h.1, gate_of_open]
  simpa using h.2

theorem countedCommand_of_takes {k : CmdKind} {tag : Byte} {i : Instr} (own : State → State)
    (h : s.takes p i) : s.countedCommand p k tag i true own = own (s.begun p) := by
  simpa [State.countedCommand] using command_of_takes own h

theorem inConfig_of_config {k : CmdKind} {tag : Byte} (own : State → State) (h : s.mode = .config) :
    s.inConfig p k tag own = own s := by
  simp [State.inConfig, h]

theorem inRun_of_run {k : CmdKind} {tag : Byte} (own : State → State) (h : s.mode = .run)
    (hl : (s.port p).state ≠ .isLocal) (hp : (s.station p).present = true) :
    s.inRun p k tag own = own s := by
  simp [State.inRun, h, hl, hp]

end Begins

/-! ## The Fault List -/

/-- A fault touches the list and, by its notices, the station ports. -/
theorem raiseFault_frame (source : FaultSource) (kind : FaultKind) (s : State) :
    s.raiseFault source kind = { s with
      faults := (s.faults.take (seconds s.time) source kind).1
      ports := (s.raiseFault source kind).ports } := by
  unfold State.raiseFault
  rcases h : s.faults.take (seconds s.time) source kind with ⟨l, b⟩
  cases b <;> rfl

theorem take_length_le (now : Nat) (source : FaultSource) (kind : FaultKind) (l : FaultList)
    (h : l.records.length ≤ Config.faultListMax) :
    (l.take now source kind).1.records.length ≤ Config.faultListMax := by
  unfold FaultList.take
  split
  · simpa using h
  · split
    · simp only [List.length_append, List.length_cons, List.length_nil]; omega
    · simpa using h

/-! ## The Permit Unit -/

/-- A recomputation touches the permits and the transmitter links. -/
theorem recompute_frame (st : Station) (s : State) :
    s.recompute st = { s with
      permits := (s.recompute st).permits, transmitters := (s.recompute st).transmitters } := by
  unfold State.recompute
  split
  · dsimp only
    split <;> rfl
  · rfl

/-- No recomputation raises an output. -/
theorem recompute_output_le (st q : Station) (s : State) :
    ((s.recompute st).permit q).output ≤ (s.permit q).output := by
  by_cases hp : (s.station st).present
  · by_cases hq : q = st
    · subst hq
      simp only [State.recompute, hp, if_true]
      split <;> simp [State.permit, State.modPermit, State.makePermit, State.modTransmitter,
        Permit.recomputed]
    · simp only [State.recompute, hp, if_true]
      split <;> simp [State.permit, State.modPermit, State.makePermit, State.modTransmitter, hq]
  · simp [State.recompute, hp]

theorem recomputeAll_frame (sts : List Station) (s : State) :
    s.recomputeAll sts = { s with
      permits := (s.recomputeAll sts).permits
      transmitters := (s.recomputeAll sts).transmitters } := by
  induction sts generalizing s with
  | nil => rfl
  | cons st rest ih =>
    have h := ih (s.recompute st)
    have h2 := recompute_frame st s
    have e : s.recomputeAll (st :: rest) = (s.recompute st).recomputeAll rest := rfl
    rw [e, h]
    generalize ((s.recompute st).recomputeAll rest).permits = a
    generalize ((s.recompute st).recomputeAll rest).transmitters = b
    rw [h2]

/-! ## Contactors -/

/-- A change of one contactor touches the contactors, the permits and the transmitter links. -/
theorem changeContactor_frame (k : Nat) (f : Contactor → Contactor) (s : State) :
    s.changeContactor k f = { s with
      contactors := s.contactors.modify k f
      permits := (s.changeContactor k f).permits
      transmitters := (s.changeContactor k f).transmitters } := by
  unfold State.changeContactor
  dsimp only
  rw [recomputeAll_frame]
  rfl

theorem contactor_changeContactor_of_ne (k j : Nat) (f : Contactor → Contactor) (s : State)
    (h : j ≠ k) : (s.changeContactor k f).contactor j = s.contactor j := by
  rw [changeContactor_frame]
  simp [State.contactor, List.getD, Ne.symm h]

theorem contactor_changeContactor_same (k : Nat) (f : Contactor → Contactor) (s : State)
    (h : k < s.contactors.length) : (s.changeContactor k f).contactor k = f (s.contactor k) := by
  rw [changeContactor_frame]
  simp [State.contactor, List.getD, h]

/-- The answers to a drive start: a travel begun under the cold check, or nothing energised. -/
theorem driveStart_cases (k : Nat) (y : Pos) (s : State) :
    (s.driveStart k y = (.withheld, s))
    ∨ (s.driveStart k y = (.started, s.changeContactor k (Contactor.beginTravel s.time y))
        ∧ s.coldCheck k = true ∧ s.scanReady = true ∧ (s.contactor k).used = true
        ∧ (s.contactor k).state ≠ .at y ∧ (∀ x, (s.contactor k).state ≠ .travel x)
        ∧ (s.contactor k).state ≠ .conflict)
    ∨ (s.driveStart k y = (.arrived, s.modContactor k (fun c => { c with commanded := y }))
        ∧ (s.contactor k).state = .at y)
    ∨ (∃ c, s.driveStart k y = (.failed c, s)) := by
  unfold State.driveStart
  split
  · exact .inl rfl
  · rename_i h
    simp at h
    rcases hs : (s.contactor k).state with x | x | _ | _ | _
    · by_cases hx : x = y
      · simp [hx]
      · by_cases hc : s.coldCheck k <;> simp [State.tryTravel, hx, hc, h]
    · exact .inr (.inr (.inr ⟨_, rfl⟩))
    · by_cases hc : s.coldCheck k <;> simp [State.tryTravel, hc, h]
    · by_cases hc : s.coldCheck k <;> simp [State.tryTravel, hc, h]
    · exact .inr (.inr (.inr ⟨_, rfl⟩))

/-! ## Records of the queue -/

/-- The end of a record touches the queue, the engine and the station ports. -/
theorem endRecord_frame (id : Nat) (result : TResult) (s : State) :
    s.endRecord id result = { s with
      queue := (s.endRecord id result).queue, engine := (s.endRecord id result).engine
      ports := (s.endRecord id result).ports } := by
  unfold State.endRecord
  split
  · rfl
  · dsimp only
    unfold State.syncLeft
    split
    · rfl
    · split
      · split <;> rfl
      · rfl

theorem endRecord_queue (id : Nat) (result : TResult) (s : State) (r : TRecord)
    (h : s.record? id = some r) :
    (s.endRecord id result).queue = s.queue.filter (fun q => q.id != id) := by
  unfold State.endRecord
  simp only [h]
  unfold State.syncLeft
  split
  · rfl
  · split
    · split <;> rfl
    · rfl

/-! ## The mute (R78) -/

/-- COLLATERAL notices touch the station ports alone. -/
theorem notifyCollateral_frame (id : Nat) (c : StationSet) (b : Bool) (s : State) :
    s.notifyCollateral id c b = { s with ports := (s.notifyCollateral id c b).ports } := by
  rcases c with ⟨x, y, z⟩
  cases x <;> cases y <;> cases z <;> rfl

/-- Each collateral port is handed one notice, and no other port any. -/
theorem notifyCollateral_port (id : Nat) (c : StationSet) (b : Bool) (s : State) (q : Station) :
    (s.notifyCollateral id c b).port q
      = if c.has q then Port.handed (.collateral id b) (s.port q) else s.port q := by
  rcases c with ⟨x, y, z⟩
  cases x <;> cases y <;> cases z <;> cases q <;> rfl

/-- What the engine keeps changes nothing of the part but the queue. -/
theorem modFlight_frame (f : Flight → Flight) (s : State) :
    s.modFlight f = { s with queue := (s.modFlight f).queue } := by
  unfold State.modFlight State.modGranted
  split <;> rfl

theorem startMonitor_frame (st : Station) (s : State) :
    s.startMonitor st = { s with conformance := (s.startMonitor st).conformance } := rfl

/-- The timers of the STEADY stations of a list restart: the Conformance Unit alone changes. -/
theorem restartMonitors_frame (sts : List Station) (s : State) :
    let t := sts.foldl (fun s st =>
      if (s.station st).state.isSteady then s.startMonitor st else s) s
    t = { s with conformance := t.conformance } := by
  induction sts generalizing s with
  | nil => rfl
  | cons st rest ih =>
    simp only [List.foldl_cons]
    by_cases h : (s.station st).state.isSteady
    · simp only [h, if_true]
      exact ih (s.startMonitor st)
    · simp only [h]
      exact ih s

/-- The release of a mute touches the queue (the mark that it is placed), the permits with their
links, the monitor timers and the collateral ports. -/
theorem releaseMute_frame (s : State) :
    s.releaseMute = { s with
      queue := s.releaseMute.queue, permits := s.releaseMute.permits
      transmitters := s.releaseMute.transmitters, conformance := s.releaseMute.conformance
      ports := s.releaseMute.ports } := by
  unfold State.releaseMute
  split
  · rfl
  · dsimp only
    rw [notifyCollateral_frame, restartMonitors_frame, recomputeAll_frame, modFlight_frame]

/-! ## The engine -/

/-- An event that leaves a free engine free, or does not free it, is that event alone. -/
theorem thenArbiter_of_engine (f : State → State) (s : State)
    (h : s.engine = .free ∨ (f s).engine ≠ .free) : s.thenArbiter f = f s := by
  unfold State.thenArbiter
  rcases h with h | h <;> simp [h]

/-- With nothing queued the arbiter does nothing. -/
theorem arbiter_of_empty (s : State) (h : s.queue = []) : s.arbiter = s := by
  unfold State.arbiter
  simp [h, State.arbiterRuns, State.queuedIds, examineFrom]

theorem arbiter_of_busy (s : State) (h : s.mode = .config ∨ s.engine ≠ .free ∨ s.hold = true) :
    s.arbiter = s := by
  unfold State.arbiter
  rcases h with h | h | h <;> simp [State.arbiterRuns, h]

end Sys2Proof.Machine
end

