-- ==== Sys2Proof/Laws/PerInstr.lean ====
section
/-! SUPPORT. One lemma for each command: the record of a well-formed station-port command fits the
envelope of Table 11.1. Every other command has no record. -/

namespace Sys2Proof.Laws.RecordFits

/-- The record of a well-formed command has a body of 2 to 250 bytes. -/
def Statement (i : Instr) : Prop :=
  ∀ p body, wellFormed i = true → encodeRecord i = some (p, body) → 2 ≤ body.length ∧ body.length ≤ 250

theorem of_wellFormed (i : Instr) : Statement i := by
  intro p body hw he
  simp only [wellFormed, Bool.and_eq_true] at hw
  have h := hw.1
  simp only [recordFits, he, bodyFits, Bool.and_eq_true, decide_eq_true_eq] at h
  exact h

theorem powerOnReset (baudHigh : Bool) :
    Statement (.powerOnReset baudHigh) := of_wellFormed _
theorem restart :
    Statement .restart := of_wellFormed _
theorem localAssert (st : Station) :
    Statement (.localAssert st) := of_wellFormed _
theorem localRelease (st : Station) :
    Statement (.localRelease st) := of_wellFormed _
theorem holdAssert :
    Statement .holdAssert := of_wellFormed _
theorem holdRelease :
    Statement .holdRelease := of_wellFormed _
theorem senseEvent (k : Fin 96) :
    Statement (.senseEvent k) := of_wellFormed _
theorem firstValueDeadline :
    Statement .firstValueDeadline := of_wellFormed _
theorem travelLimitExpiry (k : Fin 96) :
    Statement (.travelLimitExpiry k) := of_wellFormed _
theorem driveJobStartsClosed (cause : CloseCause) :
    Statement (.driveJobStartsClosed cause) := of_wellFormed _
theorem muteTimerExpiry :
    Statement .muteTimerExpiry := of_wellFormed _
theorem holdLimitReached :
    Statement .holdLimitReached := of_wellFormed _
theorem hotPauseLimitReached :
    Statement .hotPauseLimitReached := of_wellFormed _
theorem settleTimerExpiry :
    Statement .settleTimerExpiry := of_wellFormed _
theorem proofTimerExpiry :
    Statement .proofTimerExpiry := of_wellFormed _
theorem waitLimitExpiry (id : Nat) :
    Statement (.waitLimitExpiry id) := of_wellFormed _
theorem monitorTimerExpiry (st : Station) :
    Statement (.monitorTimerExpiry st) := of_wellFormed _
theorem coldDwellExpiry (st : Station) :
    Statement (.coldDwellExpiry st) := of_wellFormed _
theorem reportTimeoutExpiry (st : Station) :
    Statement (.reportTimeoutExpiry st) := of_wellFormed _
theorem rampTick (st : Station) :
    Statement (.rampTick st) := of_wellFormed _
theorem portRecordReceived (p : Station) (body : List Byte) :
    Statement (.portRecordReceived p body) := of_wellFormed _
theorem sampleSet (body : List Byte) :
    Statement (.sampleSet body) := of_wellFormed _
theorem powerReport (st : Station) (body : List Byte) :
    Statement (.powerReport st body) := of_wellFormed _
theorem discardedRecord (link : Link) (cause : DiscardCause) :
    Statement (.discardedRecord link cause) := of_wellFormed _
theorem interbyteTimeout (link : Link) :
    Statement (.interbyteTimeout link) := of_wellFormed _
theorem transmitComplete (p : Station) :
    Statement (.transmitComplete p) := of_wellFormed _
theorem permitTransmitComplete (st : Station) :
    Statement (.permitTransmitComplete st) := of_wellFormed _
theorem loadSite (p : Station)
    (tag cPresent strokeWidth : Byte)
    (holdLimit : Half)
    (muteTimeout : Byte) :
    Statement (.loadSite p tag cPresent strokeWidth holdLimit muteTimeout) := of_wellFormed _
theorem loadStation (p : Station)
    (tag station coldThreshold : Byte)
    (coldDwell reportTimeout rampStep : Half)
    (monitorTimeout escalate deescalate : Byte) :
    Statement (.loadStation p tag station coldThreshold coldDwell reportTimeout rampStep monitorTimeout escalate deescalate) := of_wellFormed _
theorem loadMap (p : Station) (tag first count : Byte) (entries : List RawMapEntry) :
    Statement (.loadMap p tag first count entries) := of_wellFormed _
theorem loadPattern (p : Station)
    (tag station slot n : Byte)
    (towers : List RawTower)
    (hdr : RawHeader) :
    Statement (.loadPattern p tag station slot n towers hdr) := of_wellFormed _
theorem loadPositions (p : Station)
    (tag station slot : Byte)
    (banks : Half)
    (positions : List Byte) :
    Statement (.loadPositions p tag station slot banks positions) := of_wellFormed _
theorem clearSlot (p : Station) (tag station slot : Byte) :
    Statement (.clearSlot p tag station slot) := of_wellFormed _
theorem drive (p : Station) (tag : Byte) (banks : Half) (positions : List Byte) :
    Statement (.drive p tag banks positions) := of_wellFormed _
theorem lock (p : Station) (tag : Byte) :
    Statement (.lock p tag) := of_wellFormed _
theorem request (p : Station) (tag slot allowCollateral : Byte) (waitLimit : Half) :
    Statement (.request p tag slot allowCollateral waitLimit) := of_wellFormed _
theorem cancel (p : Station) (tag id : Byte) :
    Statement (.cancel p tag id) := of_wellFormed _
theorem consent (p : Station) (tag value : Byte) :
    Statement (.consent p tag value) := of_wellFormed _
theorem limit (p : Station) (tag : Byte) (value : Half) :
    Statement (.limit p tag value) := of_wellFormed _
theorem sync (p : Station) (tag : Byte) :
    Statement (.sync p tag) := of_wellFormed _
theorem status (p : Station) (tag : Byte) :
    Statement (.status p tag) := of_wellFormed _
theorem readContactors (p : Station) (tag first count : Byte) :
    Statement (.readContactors p tag first count) := of_wellFormed _
theorem readPattern (p : Station) (tag station slot : Byte) :
    Statement (.readPattern p tag station slot) := of_wellFormed _
theorem readTowers (p : Station) (tag station : Byte) :
    Statement (.readTowers p tag station) := of_wellFormed _
theorem readQueue (p : Station) (tag : Byte) :
    Statement (.readQueue p tag) := of_wellFormed _
theorem readFaults (p : Station) (tag : Byte) :
    Statement (.readFaults p tag) := of_wellFormed _
theorem readClipLog (p : Station) (tag station : Byte) :
    Statement (.readClipLog p tag station) := of_wellFormed _
theorem clearClipLog (p : Station) (tag : Byte) (mask : Half) :
    Statement (.clearClipLog p tag mask) := of_wellFormed _
theorem clearFault (p : Station) (tag index : Byte) :
    Statement (.clearFault p tag index) := of_wellFormed _
theorem resume (p : Station) (tag : Byte) :
    Statement (.resume p tag) := of_wellFormed _
theorem reclaim (p : Station) (tag : Byte) :
    Statement (.reclaim p tag) := of_wellFormed _
theorem illegal (p : Station) (body : List Byte) :
    Statement (.illegal p body) := of_wellFormed _
theorem rawSenseChange (k : Fin 96) (value : Sense) :
    Statement (.rawSenseChange k value) := of_wellFormed _
theorem startByte (link : Link) :
    Statement (.startByte link) := of_wellFormed _
theorem porAsserted :
    Statement .porAsserted := of_wellFormed _
theorem restartLineRelease :
    Statement .restartLineRelease := of_wellFormed _

end Sys2Proof.Laws.RecordFits
end

