-- ==== Sys2Proof/Tests/Slice0.lean ====
section
/-! SUPPORT. Tests: every check of WellFormed refuses a term; records of Table 11.3 and the worked
figures of Chapters 1 to 4, 7, 8 and 9 (the expected values are the manual's, named at each test); and
for each statement of Certificates/Slice0 that has hypotheses, a state and operands that meet them,
clause by clause (`witness_` and the statement's name). -/

namespace Sys2Proof.Tests

open Sys2Proof Sys2Proof.Machine

-- one theorem at a time: the kernel evaluations of this file are many, and each would hold a thread
set_option Elab.async false

/-! ## Small states -/

/-- The state a command leaves. -/
def after (i : Instr) (s : State) : State :=
  match exec i s with
  | .next t => t
  | .fault _ => s
  | .refused _ => s

/-- A used contactor of station A at tower T0, AT_A. -/
def atA : Contactor :=
  { Contactor.reset (.pos .a) with
    map := ⟨.tower 0, ⟨true, false, false⟩, 0, 500⟩, state := .at .a
    debounced := some (.pos .a), debounceExpiry := none }

/-- The same contactor travelling to B, its sense still at A. -/
def toB : Contactor :=
  { atA with
    state := .travel .b, commanded := .b, driveStart := some 0, travelExpiry := some 500
    coil := .on .b }

/-- The same contactor at B. -/
def atB : Contactor := { atA with state := .at .b, commanded := .b }

/-- It travels, and its raw value has just become B. -/
def nearB : Contactor := { toB with raw := .pos .b, debounceExpiry := some 300 }

/-- An unused contactor. -/
def spare : Contactor :=
  { Contactor.reset .none with debounced := some .none, debounceExpiry := none }

/-- 96 contactors that begin with these. -/
def array (cs : List Contactor) : List Contactor := cs ++ List.replicate (96 - cs.length) spare

/-- CONFIG after scan ready. -/
def ready (cs : List Contactor) : State :=
  { State.reset with scanReady := true, firstValueExpiry := none, contactors := array cs }

/-- Every present station is COLD. -/
def chilled (s : State) : State :=
  { s with permits := s.permits.mapAll (fun st p =>
      if (s.station st).present then { p with cold := .cold } else p) }

/-- A pattern over T0 (reference) and T1 that requires these positions. -/
def pattern (ps : List (Option Pos)) : Pattern :=
  { towers := [⟨0, 1000, 0⟩, ⟨1, 900, 900⟩], reference := 0, licensedPower := 600
    ratioCaution := 30, ratioOut := 50, phaseCaution := 20, phaseOut := 30, cautionCap := 800
    outCap := 200, proofLevel := 250, settle := 2000, proofCount := 2, proofTimeout := 60
    positions := ps ++ List.replicate (96 - ps.length) none }

/-- RUN: A's slots 0 and 1 require K0 at A and at B, B's slot 0 requires nothing; the stations stand
in these states. -/
def site (cs : List Contactor) (xa xb : StationState) : State :=
  { ready cs with
    mode := .run
    slots := ⟨[some (pattern [some .a]), some (pattern [some .b]), none, none],
      [some (pattern []), none, none, none], List.replicate 4 none⟩
    stations := ⟨{ StationRecord.reset true with state := xa },
      { StationRecord.reset true with state := xb }, StationRecord.reset false⟩
    conformance := ⟨⟨[TowerRecord.formed 0, TowerRecord.formed 1], none, false⟩,
      ⟨[TowerRecord.formed 0, TowerRecord.formed 1], none, false⟩, .empty⟩ }

/-- Station A's record for slot 1. -/
def record (g : Stage) : TRecord := ⟨1, .a, 1, true, 0, 0, none, g, false, none⟩

/-- What the engine keeps for it: K0 travels. -/
def flight : Flight :=
  { Flight.granted [⟨0, .b⟩] ⟨true, false, false⟩ ⟨false, false, false⟩ with
    strokes := [0], waiting := [] }

/-- The engine holds the record in a stage. -/
def flown (s : State) (g : Stage) (f : Flight) : State :=
  { s with queue := [{ record g with flight := some f }], engine := .transition 1 }

/-- The site with K0 travelling for the record. -/
def moving (g : Stage) (f : Flight) : State := flown (site [toB] (.steady 0) .none) g f

/-- A queue that holds A's record QUEUED alone. -/
def queued (s : State) : State := { s with queue := [record .queued] }

/-- A drive job of K0 for port A. -/
def job : DriveJob :=
  { port := .a, job := [⟨0, .b⟩], moves := [⟨0, .b⟩], arrived := 0, failed := 0, notDriven := 0
    strokes := [0], waiting := [], holdStart := none, hotStart := none, closed := none }

/-- CONFIG with K0 travelling for a drive job. -/
def driving (j : DriveJob) : State := { ready [toB] with engine := .drive j }

theorem takes_of {s : State} {p : Station} {i : Instr}
    (h : (s.begins p (recordBody i) && (s.port p).state == .isOpen) = true) : s.takes p i := by
  simpa [State.takes] using h

theorem untold_of_free {s : State} (h : s.engine = .free) (k : Nat) : s.untold k := by
  constructor
  · intro r f hf
    simp [State.flying, h] at hf
  · intro j hj
    simp [h] at hj

/-- One contactor waits, and nothing keeps it from its start. -/
theorem nextOf_of {s : State} {strokes : List Nat} {waiting : List Move} {m : Move}
    (h : waiting = [m] ∧ strokes.length < s.site.strokeWidth
      ∧ (∀ k ∈ strokes, (s.contactor m.contactor).map.stage ≤ (s.contactor k).map.stage)
      ∧ s.scanReady = true ∧ (s.contactor m.contactor).used = true
      ∧ (s.contactor m.contactor).state ≠ .at m.target
      ∧ (s.contactor m.contactor).state ≠ .conflict)
    (ht : ∀ y ∈ [Pos.a, .b], (s.contactor m.contactor).state ≠ .travel y) :
    s.nextOf strokes waiting m :=
  ⟨⟨[], h.1, .inr ⟨h.2.1, rfl⟩⟩, by simp [h.1], h.2.2.1, h.2.2.2.1, h.2.2.2.2.1, h.2.2.2.2.2.1,
    h.2.2.2.2.2.2, fun y => ht y (by cases y <;> simp)⟩

theorem ready_silent (cs : List Contactor) : (ready cs).ConfigSilent := by
  refine fun _ => ⟨rfl, ?_, fun st => ?_⟩
  · intro id h
    cases h
  · cases st <;> exact ⟨rfl, rfl, rfl⟩

/-! ## WellFormed: an ill-formed term for each check -/

theorem test_wf_refuses :
    wellFormed (.waitLimitExpiry 0) = false ∧ wellFormed (.waitLimitExpiry 256) = false
    ∧ wellFormed (.portRecordReceived .a [0x20]) = false
    ∧ wellFormed (.sampleSet []) = false
    ∧ wellFormed (.powerReport .a (List.replicate 251 0)) = false
    ∧ wellFormed (.loadMap .a 0 0 2 [⟨0, 1, 50⟩]) = false
    ∧ wellFormed (.loadPattern .a 0 0 0 1 [] ⟨0, 0, 0, 0, 0, 0, 0, 0, 0, 0, 0, 0⟩) = false
    ∧ wellFormed (.loadPositions .a 0 0 0 1 []) = false
    ∧ wellFormed (.drive .a 0 3 (List.replicate 8 0)) = false
    ∧ wellFormed (.loadMap .a 0 0 90 (List.replicate 90 ⟨0, 1, 50⟩)) = false
    ∧ wellFormed (.illegal .a [0x20, 0]) = false
    ∧ wellFormed (.illegal .a [0x0F]) = false := by decide +kernel

/-! ## Records (Tables 11.1 to 11.3, written out by hand) -/

theorem test_decode_records :
    decodeRecord .a [0x01, 9, 0, 2, 0x01, 0x2C, 10] = .loadSite .a 9 0 2 300 10
    ∧ decodeRecord .b [0x02, 9, 1, 10, 0x01, 0xF4, 0x03, 0xE8, 0, 50, 10, 3, 5]
        = .loadStation .b 9 1 10 500 1000 50 10 3 5
    ∧ decodeRecord .a [0x05, 9, 0, 1, 0x00, 0x01, 1, 1, 0, 2, 0, 2, 1, 2]
        = .loadPositions .a 9 0 1 1 [1, 1, 0, 2, 0, 2, 1, 2]
    ∧ decodeRecord .c [0x27, 9, 0x00, 0x8C] = .clearClipLog .c 9 0x8C
    ∧ decodeRecord .c [0x21, 9, 88, 8] = .readContactors .c 9 88 8 := by decide +kernel

theorem test_decode_illegal :
    decodeRecord .a [0x08, 9, 0] = .illegal .a [0x08, 9, 0]
    ∧ decodeRecord .a [0x10, 9, 1, 1, 0] = .illegal .a [0x10, 9, 1, 1, 0]
    ∧ decodeRecord .a [0x03, 9, 0, 2, 0, 1, 50] = .illegal .a [0x03, 9, 0, 2, 0, 1, 50] := by
  decide +kernel

theorem test_envelope : envelope [0x20, 0x01] = [0x5A, 0x02, 0x20, 0x01, 0x00, 0x23] := by
  decide +kernel

/-! ## Worked figures of Chapter 7 -/

/-- Section 7.3: tower T3 of station B's night pattern, both sets. -/
theorem test_tower_figures :
    ratioOf 31050 41200 = (753, false) ∧ ratioDeviation 753 735 = 24
    ∧ phaseDeviation 2455 2475 = -20 ∧ rawClass (pattern []) 24 (-20) = .inBand
    ∧ ratioOf 29000 41200 = (703, false) ∧ ratioDeviation 703 735 = -43
    ∧ rawClass (pattern []) (-43) (-5) = .caution ∧ rawClass (pattern []) 24 (-21) = .caution := by
  decide +kernel

/-- Table 7.2. -/
theorem test_phase_wrap :
    phaseDeviation 3595 5 = -10 ∧ phaseDeviation 5 3595 = 10 ∧ phaseDeviation 0 1800 = 1800
    ∧ phaseDeviation 1800 0 = 1800 ∧ phaseDeviation 1801 0 = -1799 := by decide +kernel

/-- Table 7.3 and the note under it. -/
theorem test_ratio_limits :
    ratioOf 60000 10000 = (4000, true) ∧ ratioDeviation 4000 1500 = 1666
    ∧ ratioDeviation 4000 1 = 9999 ∧ ratioOf 65535 1 = (4000, true)
    ∧ ratioDeviation 4000 4000 = 0 ∧ ratioOf 0 10000 = (0, false)
    ∧ ratioDeviation 0 735 = -1000 ∧ ratioDeviation 698 735 = -50
    ∧ ratioDeviation 697 735 = -51 ∧ ratioDeviation 773 735 = 51 := by decide +kernel

/-- The current class and the two counters of T1 after these raw classes, with E = 3 and D = 5. -/
def persisted (rs : List Grade) : Grade × Nat × Nat :=
  let w := rs.foldl (fun w r => TowerRecord.persist 3 5 { w with raw := r }) (TowerRecord.formed 1);
  (w.current, w.escalate, w.deescalate)

/-- Table 7.4, after sets 5, 6, 8 and 12. -/
theorem test_persistence :
    persisted [.caution, .caution, .inBand, .caution, .out] = (.inBand, 2, 0)
    ∧ persisted [.caution, .caution, .inBand, .caution, .out, .caution] = (.caution, 0, 0)
    ∧ persisted [.caution, .caution, .inBand, .caution, .out, .caution, .out, .inBand]
        = (.caution, 0, 1)
    ∧ persisted [.caution, .caution, .inBand, .caution, .out, .caution, .out, .inBand, .inBand,
        .inBand, .inBand, .inBand] = (.inBand, 0, 0) := by decide +kernel

/-- A sample set for A over T0 and T1: amplitudes 40000 and 36000, T1 at 90 degrees. -/
def goodSet : List Byte := [0x60, 0, 0, 2, 0, 0x9C, 0x40, 0, 0, 1, 0x8C, 0xA0, 0x03, 0x84]

/-- R120, R115, R114: the set in STEADY, and with a phase of 3600 at T1 an invalid one. -/
theorem test_sample_set :
    ((after (.sampleSet goodSet) (site [atA] (.steady 0) .none)).conf .a).towers.map
        TowerRecord.ratio = [1000, 900]
    ∧ (after (.sampleSet (goodSet.take 12 ++ [0x0E, 0x10])) (site [atA] (.steady 0)
        .none)).monitor.invalidSets = ⟨1, 0, 0⟩ := by decide +kernel

/-! ## Worked figures of Chapter 8 -/

/-- Section 8: Lp = 500, Cc = 800, Oc = 200, Pl = 250, local limit 450. -/
def capsSite (x : StationState) (g : Grade) (lost : Bool) : State :=
  let p := { pattern [some .a] with licensedPower := 500 };
  let s := site [atA] x .none;
  { s with
    slots := { s.slots with a := [some p, none, none, none] }
    stations := { s.stations with a := { s.stations.a with localLimit := 450 } }
    conformance := { s.conformance with a :=
      ⟨[TowerRecord.formed 0, { TowerRecord.formed 1 with current := g }], none, lost⟩ } }

/-- The target of A and the bits of its status, its output 0. -/
def capFigures (s : State) : Nat × Nat :=
  let t := s.recompute .a;
  ((t.permit .a).target, codeCauses (t.permit .a).status)

/-- Table 8.4 and the three cases under it (RAMP is bit 7, LIMIT bit 6, MONITOR bit 4, OUT bit 3,
CAUTION bit 2, PATTERN bit 0). -/
theorem test_caps :
    capFigures (capsSite (.steady 0) .caution false) = (400, 128 + 64 + 4)
    ∧ capFigures (capsSite (.proving 0) .inBand false) = (125, 128 + 64 + 1)
    ∧ capFigures (capsSite (.steady 0) .out false) = (100, 128 + 64 + 8)
    ∧ capFigures (capsSite (.steady 0) .caution true) = (400, 128 + 64 + 16 + 4) := by
  decide +kernel

/-- Section 8: an output of 0 rises by the ramp step at each tick. -/
theorem test_ramp :
    ((after (.rampTick .a) ((capsSite (.steady 0) .caution false).recompute .a)).permit .a).output
      = 50 := by decide +kernel

/-- A report of this power from A's transmitter at a moment. -/
def reportAt (now power : Nat) (s : State) : State :=
  after (.powerReport .a ([0x61, 0] ++ byte2 power)) { s with time := now }

/-- Table 8.6, steps 1 to 5. -/
def reported : State :=
  reportAt 900 0 (reportAt 600 5 (reportAt 400 12 (reportAt 200 8 (reportAt 0 300 (site [] .none
    .none)))))

/-- Table 8.6: COOLING with its dwell kept at 1100, COLD at it, and UNKNOWN with a fault at 1900. -/
theorem test_cold_states :
    ((reported.permit .a).cold, (reported.permit .a).dwellExpiry, (reported.permit .a).reportExpiry)
      = (.cooling, some 1100, some 1900)
    ∧ ((after (.coldDwellExpiry .a) reported).permit .a).cold = .cold
    ∧ ((after (.reportTimeoutExpiry .a) (after (.coldDwellExpiry .a) reported)).permit .a).cold
      = .unknown
    ∧ (after (.reportTimeoutExpiry .a) (after (.coldDwellExpiry .a) reported)).faults.records
      = [⟨.station .a, .linkSilent, 1, 1, 1⟩] := by decide +kernel

/-! ## Contactors (Chapter 1) -/

/-- R6, R10: K0 arrives at B, its coil is released, and it stays uncommanded no longer. -/
theorem test_arrival :
    let t := after (.senseEvent 0) (ready [nearB]);
    ((t.contactor 0).state, (t.contactor 0).coil, t.time) = (.at .b, .off, 300) := by decide +kernel

/-- R15, R17: a travel limit that expires at the position left behind: STUCK, with its fault. -/
theorem test_stuck :
    let t := after (.travelLimitExpiry 0) (ready [toB]);
    ((t.contactor 0).state, t.faults.records) = (.stuck, [⟨.contactor 0, .stuck, 0, 0, 1⟩]) := by
  decide +kernel

/-- R6: the debounce timer runs 5 ms from a raw change, and stops at a return. -/
theorem test_debounce :
    ((after (.rawSenseChange 0 .both) (ready [atA])).contactor 0).debounceExpiry = some 5
    ∧ ((after (.rawSenseChange 0 (.pos .a)) (after (.rawSenseChange 0 .both)
        (ready [atA]))).contactor 0).debounceExpiry = none := by decide +kernel

/-- R7, R18: at the deadline an open contactor takes NONE; one whose value came first keeps it. -/
theorem test_scan_ready :
    let t := after .firstValueDeadline (after (.senseEvent 1) (after (.rawSenseChange 1 (.pos .b))
      State.reset))
    (t.scanReady, (t.contactor 0).state, (t.contactor 1).state, t.time)
      = (true, .lost, .at .b, 100) := by decide +kernel

/-! ## Patterns (Chapter 2) -/

/-- Section 2.4: A in slot 1 with B in slot 0 is compatible, with B in slot 1 it is not (Table 2.3). -/
theorem test_combinations :
    let a1 : List (Option Pos) :=
      [some .b, some .b, some .a, none, some .a, none, some .b, none]
    let b0 : List (Option Pos) := [none, none, some .a, some .b, none, some .a, none, none]
    let b1 : List (Option Pos) := [some .a, none, some .b, some .a, none, some .b, none, none]
    compatible [a1, b0] = true ∧ compatible [a1, b1] = false
    ∧ (List.range 8).map (combined [a1, b0])
      = [some .b, some .b, some .a, some .b, some .a, some .a, some .b, none] := by decide +kernel

/-- R2, R168: an owner-and-stage byte, a reserved bit, and a phasor that is not owned. -/
theorem test_map_entries :
    mapEntry? ⟨0, 0x13, 50⟩ = some ⟨.tower 0, ⟨true, true, false⟩, 1, 500⟩
    ∧ mapEntry? ⟨0, 0x0B, 50⟩ = none ∧ mapEntry? ⟨12, 0x02, 50⟩ = none
    ∧ mapEntry? ⟨12, 0x00, 50⟩ = some ⟨.phasor .a, ⟨false, false, false⟩, 0, 500⟩
    ∧ mapEntry? ⟨15, 0x01, 50⟩ = none ∧ mapEntry? ⟨0, 1, 1⟩ = none
    ∧ mapEntry? ⟨0, 1, 201⟩ = none := by decide +kernel

/-! ## The Transition Queue (Chapter 4) -/

/-- Section 4: the queue holds B's record 254 in MOVING, and the counter 254. -/
def busy : State :=
  { site [atA] (.steady 0) (.steady 0) with
    queue := [⟨254, .b, 0, true, 0, 0, none, .moving, false, some flight⟩]
    engine := .transition 254, nextId := 254 }

/-- Table 4.6 after steps 1 and 2: id 254 is passed over, the counter wraps, and 255 is superseded. -/
theorem test_ids :
    let t := after (.request .a 1 1 1 0) busy;
    (t.queue.map TRecord.id, t.nextId) = ([254, 255], 1)
    ∧ (let u := after (.request .a 2 1 1 0) (after (.transmitComplete .a) t);
      (u.queue.map TRecord.id, u.nextId) = ([254, 1], 2)) := by decide +kernel

/-- R62: a CANCEL of another station's record, and of the port's own. -/
theorem test_cancel :
    let t := after (.request .a 1 1 1 0) busy;
    ((after (.cancel .b 5 255) t).port .b).sending
        = some (.reply ⟨0x91, 5, .unknownId, 0, []⟩)
    ∧ (after (.cancel .a 5 255) (after (.transmitComplete .a) t)).queue.map TRecord.id = [254] := by
  decide +kernel

/-! ## Faults (Chapter 9) -/

/-- Fourteen records, as the sequence of Chapter 9 starts. -/
def nearFull : State :=
  { ready [] with
    time := 5000000
    faults := ⟨(List.range 14).map (fun k => ⟨.contactor k, .lost, 3100, 4420, 3⟩), false, 0⟩ }

/-- Table 9.3, steps 1 to 4: two records made, one dropped, one collapsed. -/
theorem test_fault_list :
    let t := (((nearFull.raiseFault (.contactor 40) .stuck).raiseFault (.station .b)
      .linkSilent).raiseFault (.contactor 40) .lost).raiseFault (.contactor 2) .lost
    (t.faults.records.length, t.faults.overflow, t.faults.dropped) = (16, true, 1)
    ∧ t.faults.records[2]? = some ⟨.contactor 2, .lost, 3100, 5000, 4⟩ := by decide +kernel

/-! ## Ports (Chapter 10) -/

/-- R154: the ninth record is dropped and counted, and a reply carries the count once. -/
theorem test_overrun :
    let s := (List.replicate 9 [0x20, (1 : Byte)]).foldl
      (fun s body => after (.portRecordReceived .a body) s) (ready [])
    ((s.port .a).queue.length, (s.port .a).overrun) = (8, 1)
    ∧ ((after (.status .a 1) s).port .a).overrun = 0
    ∧ ((after (.status .a 1) s).port .a).queue.length = 7 := by decide +kernel

/-- R158: an ILLEGAL record stops the port, which then answers STOPPED. -/
theorem test_stopped :
    let s := after (.transmitComplete .a) (after (.illegal .a [0x0F, 7]) (ready []));
    (s.port .a).state = .isStopped
    ∧ ((after (.lock .a 8) s).port .a).sending = some (.reply ⟨0x88, 8, .stopped, 0, []⟩)
    ∧ ((after (.resume .a 8) s).port .a).state = .isOpen := by decide +kernel

/-- Table 11.4, R166: six bytes for K0, which travels to B since 0; its entry bytes, and its time since
the drive start; and 40 entries within a record. -/
theorem test_contactor_reply :
    (contactorBytes 300 toB).length = 6 ∧ (contactorBytes 300 toB).take 3 = [0x00, 0x01, 50]
    ∧ (contactorBytes 300 toB).drop 4 = [0x01, 0x2C]
    ∧ bodyFits (Reply.body ⟨0xA1, 1, .ok, 0, (ready [toB]).contactorsFields 0 40⟩) = true := by
  decide +kernel

/-- Tables 11.2 and 11.4: LOST (code 5) at each place: position B, sense value NONE and the three bits
of the code; and the seven codes stay apart. -/
theorem test_state_places :
    (∀ n, let p := statePlaces n;
      let b : Byte := BitVec.ofNat 8 (1 + 16 * 2 + placedState p 5);
      b.toNat % 4 = 1 ∧ b.toNat / 16 % 4 = 2
      ∧ (b.getLsbD p.1, b.getLsbD p.2.1, b.getLsbD p.2.2) = (true, false, true))
    ∧ ∀ n, ((List.range 7).map (placedState (statePlaces n))).Nodup := by decide +kernel

/-- Every command runs from reset: the fields a first STATUS reports (R164; the two bytes FFh are log
entry 25). -/
theorem test_status_at_reset :
    ((after (.status .a 1) State.reset).port .a).sending
      = some (.reply ⟨0xA0, 1, .ok, 0, [0, 0, 3, 0, 0, 0, 0, 0, 0, 0, 0, 0, 0, 0, 0, 0, 0, 0, 0, 0, 0,
          0xFF, 0xFF, 0, 0]⟩) := by decide +kernel

/-! ## Witnesses: the hypotheses of each statement, met clause by clause -/

theorem witness_StepRunsFrontCommand :
    ({ State.reset with pending := [Instr.holdAssert] } : State).pending = [.holdAssert] := rfl

theorem witness_IdleStepTakesOwnEvent :
    (State.reset.pending = [] ∧ ({ State.reset with time := 5 } : State).ownEvent
      = some (.senseEvent 0))
    ∧ (State.reset.ownEvent = none ∧ State.reset.por = false)
    ∧ (State.reset.held.pending = [] ∧ State.reset.held.por = true)
    ∧ (let s := State.reset.modPort .c (fun q => { q with queue := [[0x20, 1]] });
      let t := s.modPort .b (fun q => { q with queue := [[0x20, 2]], executing := some ⟨1, [1]⟩ });
      s.por = false ∧ (s.port .c).canBegin = true ∧ (s.port .c).queue = [0x20, 1] :: []
      ∧ (∀ q, codeStation q < codeStation .c → (s.port q).queue = [])
      ∧ (t.port .b).canBegin = false ∧ (t.port .b).queue ≠ []) :=
  ⟨by decide +kernel, by decide +kernel, by decide +kernel, by decide +kernel, by decide +kernel,
    by decide +kernel, fun q => by cases q <;> decide +kernel, by decide +kernel, by decide +kernel⟩

theorem witness_HeldPartTakesOnlyLineEvents :
    State.reset.held.por = true ∧ Instr.muteTimerExpiry.isLineEvent = false
    ∧ ({ State.reset with restartLine := true } : State).restartLine = true := by decide +kernel

/-- CONFIG before and after scan ready, RUN with and without a recognised slot, a fault record, and one
used contactor that is derived to LOST. -/
theorem witness_RestartReturnsThePart :
    (State.reset.por = false ∧ State.reset.restartLine = false ∧ State.reset.scanReady = false)
    ∧ (let s := site [atA] .none .none;
      s.por = false ∧ s.restartLine = false ∧ s.scanReady = true ∧ s.contactors.length = 96
      ∧ s.mode = .run ∧ (s.station .a).present = true ∧ s.recognisedSlot .a = some 0)
    ∧ nearFull.faults.records[13]? = some ⟨.contactor 13, .lost, 3100, 4420, 3⟩
    ∧ (State.reset.modPort .a (Port.handed .localEntered)).ports.a.sending.isSome = true
    ∧ (let s := site [{ atA with debounced := some .none }] .none .none;
      s.restartLine = false ∧ s.scanReady = true ∧ s.contactors.length = 96
      ∧ (s.contactor 0).used = true ∧ (∀ j < 96, j ≠ 0 → (s.contactor j).used = false)
      ∧ faultOfDerivation ((s.contactor 0).debounced.getD .none) = some .lost) := by
  decide +kernel

theorem queued_ordered (s : State) (h : s.engine = .free) (hm : s.mode = .run)
    (hn : s.nextId = 1) : (queued s).QueueOrdered := by
  simp [State.QueueOrdered, queued, record, h, hm, hn]

theorem moving_ordered (g : Stage) (f : Flight) (hg : g ≠ .queued) : (moving g f).QueueOrdered := by
  cases g <;> simp_all [State.QueueOrdered, moving, flown, site, ready, record, State.reset]

theorem witness_LocalAssertEntersLocal :
    (State.reset.por = false
      ∧ ((State.reset.modPort .a (fun q => { q with localLine := true })).port .a).localLine = true)
    ∧ (State.reset.por = false ∧ (State.reset.port .a).localLine = false
      ∧ State.reset.mode = .config)
    ∧ (let s := queued (site [atA] (.steady 0) .none);
      s.por = false ∧ (s.port .a).localLine = false ∧ s.mode = .run ∧ s.queue = [record .queued]
      ∧ (record .queued).station = .a ∧ s.engine ≠ .transition (record .queued).id)
    ∧ (let s := moving .muting flight;
      s.por = false ∧ (s.port .a).localLine = false ∧ s.mode = .run)
    ∧ (moving .muting flight).QueueOrdered
    ∧ (moving .muting flight).fliesAlone { record .muting with flight := some flight } flight
    ∧ flight.collateral.has .a = false :=
  ⟨by decide +kernel, by decide +kernel, by decide +kernel, by decide +kernel,
    moving_ordered _ _ (by decide), ⟨rfl, rfl, rfl⟩, rfl⟩

/-- Port A in a state, its LOCAL line at a level. -/
def portAt (x : PortState) (line : Bool) (s : State) : State :=
  s.modPort .a (fun q => { q with state := x, localLine := line })

theorem witness_LocalReleaseAndReclaim :
    ∀ x line, (portAt x line State.reset).begins .a [0x2A, 7] = true
      ∧ ((portAt x line State.reset).port .a).state = x
      ∧ ((portAt x line State.reset).port .a).localLine = line := by
  intro x line
  cases x <;> cases line <;> decide +kernel

theorem moving_flies (g : Stage) (f : Flight) :
    (moving g f).fliesAlone { record g with flight := some f } f := ⟨rfl, rfl, rfl⟩

/-- What a drive job keeps for K0, which waits; and CONFIG with it, every station COLD. -/
def waitingJob : DriveJob := { job with strokes := [], waiting := [⟨0, .b⟩] }
def drivingCold (hold : Bool) (j : DriveJob) : State :=
  { chilled (ready [atA]) with engine := .drive j, hold := hold }

theorem drivingCold_silent (hold : Bool) (j : DriveJob) : (drivingCold hold j).allSilent := by
  intro st
  cases st <;> simp [drivingCold, chilled, ready, State.reset, State.station, State.permit,
    PerStation.get, PerStation.mapAll, StationRecord.reset, Permit.reset, Permit.absent]

theorem drivingCold_next (hold : Bool) (j : DriveJob) :
    (drivingCold hold j).nextOf [] [⟨0, .b⟩] ⟨0, .b⟩ :=
  have h : (chilled (ready [atA])).nextOf [] [⟨0, .b⟩] ⟨0, .b⟩ :=
    nextOf_of ⟨rfl, by decide +kernel, by simp, rfl, rfl, by decide +kernel, by decide +kernel⟩
      (by decide +kernel)
  h

/-- The job goes on after the release with its starts closed, with nothing waiting, with every stroke
taken, and with a station that is not COLD; and one contactor starts. -/
theorem witness_HoldTimesTheJob :
    (∀ g f, (moving g f).por = false ∧ (moving g f).hold = false
      ∧ (moving g f).fliesAlone { record g with flight := some f } f)
    ∧ (∀ g f, ({ moving g f with hold := true } : State).fliesAlone
        { record g with flight := some f } f)
    ∧ ((driving job).engine = .drive job ∧ (driving job).hold = false)
    ∧ (State.reset.engine = .free ∧ State.reset.queue = [])
    ∧ (let s := { queued (site [atA] (.steady 0) .none) with hold := true };
      s.por = false ∧ s.hold = true ∧ s.engine = .free)
    ∧ (∀ j, let s := { driving j with hold := true };
      s.por = false ∧ s.engine = .drive j ∧ s.hold = true ∧ s.mode = .config)
    ∧ (job.goesOn ∧ { job with closed := some .hold }.goesOn ∧ job.waiting = []
      ∧ (let j := { job with strokes := [0, 3], waiting := [⟨1, .b⟩] };
        j.goesOn ∧ (driving j).site.strokeWidth ≤ j.strokes.length)
      ∧ ((driving job).station .a).present = true ∧ ((driving job).permit .a).cold ≠ .cold)
    ∧ (waitingJob.closed = none ∧ (drivingCold true waitingJob).hold = true
      ∧ (drivingCold true waitingJob).mode = .config
      ∧ (drivingCold true waitingJob).engine = .drive waitingJob)
    ∧ ((drivingCold true waitingJob).allSilent
      ∧ (drivingCold true waitingJob).nextOf waitingJob.strokes waitingJob.waiting ⟨0, .b⟩) :=
  ⟨fun g f => ⟨rfl, rfl, moving_flies g f⟩, fun _ _ => ⟨rfl, rfl, rfl⟩, ⟨rfl, rfl⟩, ⟨rfl, rfl⟩,
    ⟨rfl, rfl, rfl⟩, fun _ => ⟨rfl, rfl, rfl, rfl⟩,
    ⟨.inl (by decide), .inl (by decide), rfl, ⟨.inl (by decide), by decide +kernel⟩,
      by decide +kernel⟩,
    ⟨rfl, rfl, rfl, rfl⟩, drivingCold_silent _ _, drivingCold_next _ _⟩

/-- The first and the last contactor; a third value, and a return to the debounced value. -/
theorem witness_RawSenseChangeDebounces :
    ((ready [atA]).contactor 0).raw ≠ .both ∧ ((ready [atA]).contactor 95).raw ≠ .pos .b
    ∧ (({ atA with raw := .none } : Contactor).raw ≠ .pos .a
      ∧ atA.debounced = some (.pos .a)) := by decide +kernel

theorem witness_SenseEventMovesTheContactor :
    (let s := ready [nearB];
      s.por = false ∧ s.scanReady = true ∧ s.contactors.length = 96
      ∧ (s.contactor (0 : Fin 96).val).debounceExpiry = some 300
      ∧ (s.contactor (0 : Fin 96).val).used = true)
    ∧ ((ready [nearB]).contactor 0).CoilFollows ∧ (ready [nearB]).untold 0
    ∧ ((ready [{ spare with raw := .both, debounceExpiry := some 5 }]).contactor 0).used = false
    ∧ (faultOfSense (.at .a) (.pos .b) = some .uncommanded
      ∧ faultOfSense (.travel .b) (.pos .b) = none)
    ∧ (let s := flown (site [{ nearB with raw := .none }] (.steady 0) .none) .moving flight;
      (∃ r f, s.flying = some (r, f) ∧ f.strokes.contains 0 = true)
      ∧ (s.contactor 0).CoilFollows
      ∧ ∀ y, (s.contactor 0).state = .travel y →
          (s.contactor 0).raw ≠ .pos y ∧ (s.contactor 0).raw ≠ .both)
    ∧ (nearB.state = .travel .b ∧ nearB.raw = .pos .b)
    ∧ (({ nearB with raw := .both } : Contactor).CoilFollows) :=
  ⟨by decide +kernel, ⟨rfl, rfl, rfl, rfl⟩, untold_of_free rfl 0, by decide +kernel,
    by decide +kernel, ⟨⟨_, _, rfl, rfl⟩, ⟨rfl, rfl, rfl, rfl⟩, fun _ _ => ⟨nofun, nofun⟩⟩,
    by decide, ⟨rfl, rfl, rfl, rfl⟩⟩

/-- After reset, with a first debounced value at every contactor but K95. -/
def lastValue : State :=
  { State.reset with contactors := List.replicate 95 spare ++ [Contactor.reset .none] }

theorem lastValue_silent : lastValue.ConfigSilent := by
  refine fun _ => ⟨rfl, ?_, fun st => ?_⟩
  · intro id h
    cases h
  · cases st <;> exact ⟨rfl, rfl, rfl⟩

theorem witness_FirstValuesBringScanReady :
    (State.reset.por = false ∧ State.reset.scanReady = false
      ∧ (State.reset.contactor (0 : Fin 96).val).debounceExpiry = some 5
      ∧ State.reset.contactors.length = 96 ∧ State.reset.firstValueExpiry = some 100
      ∧ State.reset.mode = .config)
    ∧ (∃ j < State.reset.contactors.length, j ≠ (0 : Fin 96).val
      ∧ (State.reset.contactor j).debounced = none)
    ∧ (∀ c ∈ State.reset.contactors, c.used = false)
    ∧ (State.reset.contactor 95).debounced = none
    ∧ (lastValue.por = false ∧ lastValue.scanReady = false ∧ lastValue.contactors.length = 96
      ∧ (lastValue.contactor (95 : Fin 96).val).debounceExpiry = some 5
      ∧ ∀ j < 96, j ≠ (95 : Fin 96).val → (lastValue.contactor j).debounced ≠ none)
    ∧ (lastValue.mode = .config ∧ lastValue.ConfigSilent)
    ∧ (let s := State.reset.modContactor 0 (fun c => { c with map := atA.map });
      s.scanReady = false ∧ s.contactors.length = 96 ∧ s.firstValueExpiry = some 100
      ∧ (s.contactor 0).used = true ∧ (∀ j < 96, j ≠ 0 → (s.contactor j).used = false)
      ∧ faultOfDerivation ((s.contactor 0).debounced.getD .none) = some .lost) :=
  ⟨by decide +kernel, ⟨95, by decide +kernel⟩, by decide +kernel, by decide +kernel,
    by decide +kernel, ⟨rfl, lastValue_silent⟩, by decide +kernel⟩

theorem witness_TravelLimitEndsTheTravel :
    (let s := ready [toB];
      s.por = false ∧ s.contactors.length = 96 ∧ (s.contactor (0 : Fin 96).val).state = .travel .b
      ∧ (s.contactor (0 : Fin 96).val).travelExpiry = some 500
      ∧ (s.contactor (0 : Fin 96).val).debounced = some (.pos .a))
    ∧ (ready [toB]).untold 0
    ∧ ((ready [{ toB with debounced := some .none }]).contactor 0).debounced = some .none
    ∧ (limitGives .b (.pos .a) .stuck .stuck ∧ limitGives .b .none .lost .lost)
    ∧ (let s := ready [{ toB with debounced := some (.pos .b) }];
      ∀ v, (s.contactor 0).debounced = some v → ∀ g kind, ¬limitGives .b v g kind) := by
  refine ⟨by decide +kernel, untold_of_free rfl 0, by decide +kernel,
    ⟨.inl ⟨.a, rfl, by decide, rfl, rfl⟩, .inr ⟨rfl, rfl, rfl⟩⟩, ?_⟩
  intro s v hv g kind h
  have hv : v = .pos .b := (Option.some.inj hv).symm
  subst hv
  rcases h with ⟨x, hx, hn, -⟩ | ⟨hx, -⟩
  · exact hn (Sense.pos.inj hx).symm
  · exact nomatch hx

/-- Every answer of a drive start: STARTED, WITHHELD, ARRIVED, and FAILED for CONFLICT. -/
theorem witness_DriveStartAsksForCold :
    0 < (ready [atA]).contactors.length
    ∧ ((chilled (ready [atA])).driveStart 0 .b).1 = .started
    ∧ ((ready [atA]).driveStart 0 .b).1 = .withheld
    ∧ ((ready [atA]).driveStart 0 .a).1 = .arrived
    ∧ ((ready [{ atA with state := .conflict }]).driveStart 0 .b).1 = .failed .conflict
    ∧ (((ready [{ atA with state := .conflict }]).contactor 0).state = .conflict
      ∧ ((ready [{ atA with state := .conflict }]).contactor 0).used = true) := by decide +kernel

/-- Another contactor travels; none travels and none has arrived; none travels and one has. -/
theorem witness_FailureSendsToAborting :
    (∀ f : Flight, (moving .moving f).por = false
      ∧ (moving .moving f).fliesAlone { record .moving with flight := some f } f)
    ∧ (let s := moving .moving flight;
      s.contactors.length = 96 ∧ (s.contactor (0 : Fin 96).val).state = .travel .b
      ∧ (s.contactor (0 : Fin 96).val).travelExpiry = some 500
      ∧ (s.contactor (0 : Fin 96).val).debounced = some (.pos .a)
      ∧ flight.strokes.contains (0 : Fin 96).val = true)
    ∧ without 0 ({ flight with strokes := [0, 3] } : Flight).strokes ≠ []
    ∧ (without 0 flight.strokes = [] ∧ flight.arrivals = 0)
    ∧ 0 < ({ flight with arrivals := 1 } : Flight).arrivals
    ∧ (flight.collateral.has .a = false ∧ ((moving .moving flight).port .a).executing = none
      ∧ ((moving .moving flight).station .a).state ≠ .mixed)
    ∧ (limitGives .b (.pos .a) .stuck .stuck ∧ (record .moving).stage = .moving)
    ∧ (let f := { flight with abortResult := some .failedHot };
      (moving .aborting f).fliesAlone { record .aborting with flight := some f } f
      ∧ (record .aborting).stage = .aborting ∧ f.abortResult = some .failedHot) :=
  ⟨fun f => ⟨rfl, moving_flies _ f⟩, by decide +kernel, by decide +kernel, by decide +kernel,
    by decide +kernel, by decide +kernel, ⟨.inl ⟨.a, rfl, by decide, rfl, rfl⟩, rfl⟩,
    ⟨rfl, rfl, rfl⟩, rfl, rfl⟩

/-- The same site with K0's raw value at B. -/
def arriving (g : Stage) (f : Flight) : State := flown (site [nearB] (.steady 0) .none) g f

theorem witness_ArrivalReachesTheRecord :
    (let s := arriving .moving flight;
      s.por = false ∧ s.scanReady = true ∧ s.contactors.length = 96
      ∧ (s.slot .a 1).isSome = true ∧ flight.strokes.contains (0 : Fin 96).val = true
      ∧ (s.contactor (0 : Fin 96).val).used = true
      ∧ (s.contactor (0 : Fin 96).val).state = .travel .b
      ∧ (s.contactor (0 : Fin 96).val).debounceExpiry = some 300
      ∧ (s.contactor (0 : Fin 96).val).raw = .pos .b
      ∧ flight.arrivals + 1 = flight.moves.length)
    ∧ (∀ g f, (arriving g f).fliesAlone { record g with flight := some f } f)
    ∧ ((arriving .moving flight).contactor 0).CoilFollows
    ∧ (pattern [some .b]).settle ≠ 0
    ∧ without 0 ({ flight with strokes := [0, 3] } : Flight).strokes ≠ []
    ∧ without 0 flight.strokes = []
    ∧ (let f := { flight with abortResult := some .failedHold };
      f.abortResult = some .failedHold ∧ f.collateral.has .a = false
      ∧ ((arriving .aborting f).port .a).executing = none
      ∧ ((arriving .aborting f).station .a).state ≠ .mixed)
    ∧ (let s := (arriving .moving flight).setSlot .a 1
        (some { pattern [some .b] with settle := 0 });
      s.slot .a 1 = some { pattern [some .b] with settle := 0 }
      ∧ s.fliesAlone { record .moving with flight := some flight } flight) :=
  ⟨by decide +kernel, fun _ _ => ⟨rfl, rfl, rfl⟩, ⟨rfl, rfl, rfl, rfl⟩, by decide +kernel,
    by decide +kernel, by decide +kernel, by decide +kernel, by decide +kernel, ⟨rfl, rfl, rfl⟩⟩

theorem witness_DriveJobCountsAndEnds :
    (∀ j, (driving j).por = false ∧ (driving j).mode = .config ∧ (driving j).engine = .drive j)
    ∧ (let j := { job with holdStart := some 0, hotStart := some 0 };
      j.closed = none ∧ (driving j).driveLimit .hold = some 30000
      ∧ (driving j).driveLimit .hotPause = some 10000 ∧ j.strokes ≠ [])
    ∧ (let j := { job with holdStart := some 0, strokes := [], waiting := [⟨0, .b⟩] };
      j.closed = none ∧ (driving j).driveLimit .hold = some 30000 ∧ j.strokes = [])
    ∧ (0 ∈ job.strokes ∧ job.waiting = [] ∧ without 0 job.strokes = [])
    ∧ (let j := { job with strokes := [0, 3] };
      3 ∈ j.strokes ∧ j.waiting = [] ∧ without 3 j.strokes ≠ [])
    ∧ (let j := { job with strokes := [0, 3], closed := some .hold };
      (3 ∈ j.strokes ∧ j.closed ≠ none ∧ ((driving j).permit .a).cold ≠ .cold)
      ∧ DriveJob.goesOn { j with strokes := without 3 j.strokes } ∧ j.goesOn)
    ∧ ((0 ∈ ({ waitingJob with strokes := [0] } : DriveJob).strokes
        ∧ without 0 [0] = ([] : List Nat) ∧ waitingJob.closed = none)
      ∧ (∀ hold j, (drivingCold hold j).por = false ∧ (drivingCold hold j).mode = .config
        ∧ (drivingCold hold j).engine = .drive j ∧ (drivingCold hold j).hold = hold)
      ∧ (∀ hold j, (drivingCold hold j).allSilent
        ∧ (drivingCold hold j).nextOf [] [⟨0, .b⟩] ⟨0, .b⟩) ∧ waitingJob.goesOn) :=
  ⟨fun _ => ⟨rfl, rfl, rfl⟩, by decide +kernel, by decide +kernel, by decide +kernel,
    by decide +kernel, ⟨by decide +kernel, .inl (by decide), .inl (by decide)⟩,
    by decide +kernel, fun _ _ => ⟨rfl, rfl, rfl, rfl⟩,
    fun _ _ => ⟨drivingCold_silent _ _, drivingCold_next _ _⟩, .inr ⟨by decide, rfl⟩⟩

/-- A travelling contactor of the drive job shows its target, BOTH, and at its limit its old
position. -/
theorem witness_DriveJobCountsAndEnds_reports :
    (∀ c, c ∈ [nearB, { nearB with raw := .both }, toB] →
      let s := { ready [c] with engine := .drive job };
      s.por = false ∧ s.mode = .config ∧ s.contactors.length = 96 ∧ s.scanReady = true
      ∧ (0 : Fin 96).val ∈ job.strokes ∧ (s.contactor 0).state = .travel .b
      ∧ (s.contactor 0).used = true ∧ (s.contactor 0).travelExpiry = some 500
      ∧ (s.contactor 0).debounced = some (.pos .a))
    ∧ (∀ c, ({ ready [c] with engine := .drive job } : State).ConfigSilent)
    ∧ (nearB.debounceExpiry = some 300 ∧ nearB.CoilFollows ∧ limitGives .b (.pos .a) .stuck .stuck) := by
  refine ⟨by decide +kernel, fun c _ => ⟨rfl, ?_, fun st => ?_⟩, rfl, ⟨rfl, rfl, rfl, rfl⟩,
    .inl ⟨.a, rfl, by decide, rfl, rfl⟩⟩
  · intro id h
    cases h
  · cases st <;> exact ⟨rfl, rfl, rfl⟩

/-- The drive job with station A in COOLING; and with B not COLD beside it. -/
def drivingCooling (hold : Bool) (b : Cold) : State :=
  ((drivingCold hold waitingJob).modPermit .a (fun p =>
    { p with cold := .cooling, dwellExpiry := some 500, reportExpiry := some 1000 })).modPermit .b
      (fun p => { p with cold := b })

theorem witness_DriveJobCountsAndEnds_cold :
    (∀ hold b, (drivingCooling hold b).engine = .drive waitingJob
      ∧ (drivingCooling hold b).por = false ∧ (drivingCooling hold b).mode = .config
      ∧ (drivingCooling hold b).hold = hold
      ∧ ((drivingCooling hold b).station .a).present = true
      ∧ ((drivingCooling hold b).station .b).present = true
      ∧ ((drivingCooling hold b).permit .a).cold = .cooling
      ∧ ((drivingCooling hold b).permit .a).dwellExpiry = some 500
      ∧ ((drivingCooling hold b).permit .a).reportExpiry = some 1000
      ∧ ((drivingCooling hold b).permit .b).cold = b)
    ∧ (∀ q, q ≠ .a → ((drivingCooling false .cold).station q).present = true →
        ((drivingCooling false .cold).permit q).cold = .cold)
    ∧ (∀ q, ((drivingCooling false .cold).station q).present = true →
        ((drivingCooling false .cold).permit q).output = 0)
    ∧ (drivingCooling false .cold).nextOf waitingJob.strokes waitingJob.waiting ⟨0, .b⟩ := by
  refine ⟨fun _ _ => ⟨rfl, rfl, rfl, rfl, rfl, rfl, rfl, rfl, rfl, rfl⟩, ?_, ?_, ?_⟩
  · intro q
    cases q <;> decide +kernel
  · intro q
    cases q <;> decide +kernel
  · exact nextOf_of ⟨rfl, by decide +kernel, by decide +kernel, rfl, rfl, by decide +kernel,
      by decide +kernel⟩ (by decide +kernel)

/-- The timers of a record in MUTING, MOVING, SETTLING and PROVING. -/
def timed : Flight :=
  { flight with
    mutePlaced := true, muteExpiry := some 10000, holdStart := some 0, hotStart := some 0
    settleExpiry := some 2000, proofExpiry := some 60000 }

theorem witness_MutingEndsAtItsLimits :
    ((moving .muting timed).por = false ∧ timed.muteExpiry = some 10000 ∧ timed.holdStart = some 0
      ∧ timed.collateral.has .a = false ∧ ((moving .muting timed).port .a).executing = none)
    ∧ (moving .muting timed).fliesAlone { record .muting with flight := some timed } timed
    ∧ (let r := { record .muting with flight := some timed };
      let s := { moving .muting timed with queue := [r, ⟨2, .b, 0, true, 0, 0, none, .queued, false,
        none⟩] };
      s.por = false ∧ s.flying = some (r, timed)) :=
  ⟨by decide +kernel, moving_flies _ _, rfl, rfl⟩

theorem witness_MovingEndsAtItsLimits :
    ((moving .moving timed).por = false ∧ timed.strokes ≠ [] ∧ timed.holdStart = some 0
      ∧ timed.hotStart = some 0)
    ∧ (moving .moving timed).fliesAlone { record .moving with flight := some timed } timed
    ∧ (∀ n, let f := { timed with strokes := [], arrivals := n };
      (moving .moving f).fliesAlone { record .moving with flight := some f } f
      ∧ f.strokes = [] ∧ f.holdStart = some 0 ∧ f.hotStart = some 0) :=
  ⟨by decide +kernel, moving_flies _ _, fun _ => ⟨moving_flies _ _, rfl, rfl, rfl⟩⟩

/-- Station B, STEADY, shares the mute: a collateral station. -/
def withB (f : Flight) : Flight :=
  { f with muteSet := ⟨true, true, false⟩, collateral := ⟨false, true, false⟩ }

/-- What the release of a mute speaks of: STEADY members of the mute set, a collateral station, and a
station outside both. -/
theorem witness_muteReleased :
    let s := flown (site [toB] (.steady 0) (.steady 0)) .muting (withB timed);
    (withB timed).muteSet.has .b = true ∧ (s.station .b).present = true
    ∧ (withB timed).collateral.has .b = true ∧ (s.station .b).state.isSteady = true
    ∧ (withB timed).muteSet.has .c = false ∧ (withB timed).collateral.has .c = false
    ∧ s.muteHolds .b = true := by decide +kernel

/-- The requester is STEADY in its old slot. -/
theorem witness_SettleExpiryStartsTheProof :
    let f := withB timed;
    let s := flown (site [toB] (.steady 0) (.steady 0)) .settling f;
    (s.por = false ∧ f.settleExpiry = some 2000 ∧ (s.slot .a 1).isSome = true
      ∧ f.collateral.has .a = false ∧ (s.station .a).present = true
      ∧ (s.station .a).state ≠ .proving 1)
    ∧ s.fliesAlone { record .settling with flight := some f } f :=
  ⟨by decide +kernel, ⟨rfl, rfl, rfl⟩⟩

theorem witness_ProofExpirySeedsOut :
    ((moving .proving timed).por = false ∧ timed.proofExpiry = some 60000)
    ∧ (moving .proving timed).fliesAlone { record .proving with flight := some timed } timed
    ∧ (let s := flown (site [atB] (.proving 1) .none) .proving timed;
      (s.station .a).present = true ∧ (s.station .a).state = .proving 1
      ∧ (s.conf .a).towers ≠ [] ∧ (s.slot .a 1).isSome = true
      ∧ (s.port .a).executing = none) :=
  ⟨by decide +kernel, moving_flies _ _, by decide +kernel⟩

/-- With no SYNC executing, and with one that waits for the record. -/
theorem witness_WaitLimitEndsTheRecord :
    let r := { record .queued with waitExpiry := some 900 };
    let s := { site [atA] (.steady 0) .none with queue := [r] };
    let t := s.modPort .a (fun q => { q with executing := some ⟨7, [1]⟩ });
    s.por = false ∧ s.record? r.id = some r ∧ r.stage = .queued ∧ r.waitExpiry = some 900
    ∧ s.engine ≠ .transition r.id ∧ (s.port r.station).executing = none
    ∧ (t.record? r.id = some r ∧ (t.port r.station).executing = some ⟨7, [r.id]⟩) := by
  decide +kernel

theorem witness_StationTimersAct :
    (let s := (site [atA] (.steady 0) .none).modConf .a (fun c => { c with monitorExpiry := some 9 });
      s.por = false ∧ (s.conf .a).monitorExpiry = some 9 ∧ (s.station .a).present = true
      ∧ (s.station .a).state.isSteady = true ∧ (s.currentPattern .a).isSome = true)
    ∧ (let s := (capsSite (.steady 0) .caution false).recompute .a;
      s.por = false ∧ (s.permit .a).rampExpiry = some 100) := by decide +kernel

/-- Station A's record in a stage, K0 AT_A, B COLD and A in COOLING. -/
def cooling (g : Stage) (f : Flight) : State :=
  (chilled (flown (site [atA] (.steady 0) (.steady 0)) g f)).modPermit .a (fun p =>
    { p with cold := .cooling, dwellExpiry := some 500, reportExpiry := some 1000 })

/-- What the engine keeps for it, K0 waiting. -/
def waiting : Flight := { withB flight with strokes := [], waiting := [⟨0, .b⟩] }

theorem nextAlone_of {s : State} {f : Flight} {m : Move}
    (h : f.waiting = [m] ∧ f.strokes.length < s.site.strokeWidth
      ∧ (∀ k ∈ f.strokes, (s.contactor m.contactor).map.stage ≤ (s.contactor k).map.stage)
      ∧ s.scanReady = true ∧ (s.contactor m.contactor).used = true
      ∧ (s.contactor m.contactor).state ≠ .at m.target
      ∧ (s.contactor m.contactor).state ≠ .conflict)
    (ht : ∀ y ∈ [Pos.a, .b], (s.contactor m.contactor).state ≠ .travel y)
    (he : ∀ q ∈ [Station.a, .b, .c], s.exposed q m.contactor = true →
      f.muteSet.has q = true ∧ (s.permit q).output = 0) : s.nextAlone f m :=
  ⟨nextOf_of h ht, fun q => he q (by cases q <;> simp)⟩

theorem witness_ColdTimersAct :
    (let s := (ready []).modPermit .a (fun p =>
        { p with cold := .cooling, dwellExpiry := some 500, reportExpiry := some 1000 });
      s.por = false ∧ s.engine = .free ∧ (s.permit .a).cold = .cooling
      ∧ (s.permit .a).dwellExpiry = some 500 ∧ (s.permit .a).reportExpiry = some 1000)
    ∧ (let s := { (moving .muting timed).modPermit .a (fun p =>
        { p with cold := .cooling, dwellExpiry := some 500 }) with hold := true };
      (s.por = false ∧ timed.muteSet.has .a = true ∧ (s.permit .a).cold = .cooling
        ∧ (s.permit .a).dwellExpiry = some 500 ∧ s.hold = true)
      ∧ s.fliesAlone { record .muting with flight := some timed } timed
      ∧ ∀ q, q ≠ .a → timed.muteSet.has q = true → (s.permit q).cold = .cold)
    ∧ ((cooling .muting waiting).fliesAlone { record .muting with flight := some waiting } waiting
      ∧ (cooling .muting waiting).hold = false
      ∧ ((cooling .muting waiting).permit .a).cold = .cooling
      ∧ ((cooling .muting waiting).permit .a).dwellExpiry = some 500
      ∧ (∀ q, q ≠ .a → waiting.muteSet.has q = true →
          ((cooling .muting waiting).permit q).cold = .cold)
      ∧ (cooling .muting waiting).nextAlone { waiting with
          muteExpiry := none, hotStart := none, strokes := [], waiting := waiting.moves
          arrivals := 0, failures := 0 } ⟨0, .b⟩) := by
  refine ⟨by decide +kernel, ⟨by decide +kernel, ⟨rfl, rfl, rfl⟩, ?_⟩, ⟨rfl, rfl, rfl⟩, rfl,
    by decide +kernel, by decide +kernel, ?_, ?_⟩
  · intro q
    cases q <;> decide +kernel
  · intro q
    cases q <;> decide +kernel
  · exact nextAlone_of (by decide +kernel) (by decide +kernel) (by decide +kernel)

/-- What an arbiter's run is given: the combination, the move set, the collateral set. -/
def examined (s : State) : Bool × List Move × StationSet :=
  let moves := s.moveSet (s.combination .a 1);
  (compatible (s.combination .a 1), moves, s.collateralOf .a (s.muteSetOf .a moves))

/-- A site whose station B requires K0 at A, a site with B on air over the same tower, and one with
K0 at B already. -/
def rival : State :=
  let s := site [atA] (.steady 0) (.steady 0);
  { s with slots := { s.slots with b := [some (pattern [some .a]), none, none, none] } }
def shared : State :=
  let s := site [atA] (.steady 0) (.steady 0);
  s.modStation .b (fun r => { r with consent := .deny })

/-- K0 in CONFLICT; and B on air over the same tower, with its consent. -/
def jammed : State := site [{ atA with state := .conflict }] (.steady 0) .none
def willing : State := site [atA] (.steady 0) (.steady 0)

theorem witness_ArbiterDecidesTheRecord :
    (∀ s ∈ [rival, shared, jammed, willing, site [atB] (.steady 0) .none,
        site [atA] (.steady 0) .none],
      (queued s).mode = .run ∧ (queued s).engine = .free ∧ (queued s).hold = false
      ∧ (queued s).queue = [record .queued] ∧ ((queued s).port .a).executing = none)
    ∧ ((record .queued).stage = .queued ∧ (record .queued).flight = none)
    ∧ (examined (queued rival)).1 = false
    ∧ (examined (queued shared) = (true, [⟨0, .b⟩], ⟨false, true, false⟩)
      ∧ ((queued shared).station .b).consent = .deny)
    ∧ (examined (queued jammed) = (true, [⟨0, .b⟩], ⟨false, false, false⟩)
      ∧ ((queued jammed).contactor 0).state = .conflict)
    ∧ (examined (queued willing) = (true, [⟨0, .b⟩], ⟨false, true, false⟩)
      ∧ (record .queued).allowCollateral = true ∧ ((queued willing).station .b).consent = .allow
      ∧ ((queued willing).contactor 0).state ≠ .conflict
      ∧ ((queued willing).permit .b).cold ≠ .cold)
    ∧ (examined (queued (site [atB] (.steady 0) .none)) = (true, [], ⟨false, false, false⟩)
      ∧ (site [atB] (.steady 0) .none).slot .a 1 = some (pattern [some .b])
      ∧ ((site [atB] (.steady 0) .none).station .a).present = true)
    ∧ (examined (queued (site [atA] (.steady 0) .none)) = (true, [⟨0, .b⟩], ⟨false, false, false⟩)
      ∧ ((queued (site [atA] (.steady 0) .none)).permit .a).cold ≠ .cold
      ∧ ((queued (site [atA] (.steady 0) .none)).contactor 0).state ≠ .conflict) := by
  decide +kernel

/-- The queue of a site with two QUEUED records of A. -/
def pair (s : State) (r q : TRecord) : State := { s with queue := [r, q] }

/-- A second record of A, and one that allows no collateral. -/
def later : TRecord := { record .queued with id := 2 }
def strict : TRecord := { later with allowCollateral := false }

theorem parks_shared : ∀ r ∈ [record .queued, later], (pair shared (record .queued) later).parks r
    ∧ (pair shared (record .queued) strict).parks (record .queued) := by
  have h : ∀ q r, r ∈ [record .queued, later] → (pair shared (record .queued) q).parks r := by
    intro q r hr
    have hr : r = record .queued ∨ r = later := by simpa using hr
    rcases hr with rfl | rfl <;>
      exact ⟨⟨(by decide +kernel : compatible (shared.combination .a 1) = true),
        (by decide +kernel : ∀ m ∈ shared.moveSet (shared.combination .a 1),
          (shared.contactor m.contactor).state ≠ .conflict)⟩, rfl, .b,
        (by decide +kernel : (shared.collateralOf .a (shared.muteSetOf .a
          (shared.moveSet (shared.combination .a 1)))).has .b = true), rfl⟩
  exact fun r hr => ⟨h _ r hr, h _ _ (by simp)⟩

/-- The older ends by each of its cases, waits, or is granted; behind one that waits the next ends,
waits, or is granted. -/
theorem witness_ArbiterDecidesTheRecord_order :
    (∀ s ∈ [rival, jammed, shared, willing], s.mode = .run ∧ s.engine = .free ∧ s.hold = false
      ∧ (s.port .a).executing = none ∧ (record .queued).id ≠ later.id)
    ∧ (pair rival (record .queued) later).endsAs (record .queued) .conflict
    ∧ (pair jammed (record .queued) later).endsAs (record .queued) .failedContactor
    ∧ (pair shared (record .queued) strict).endsAs strict .needsCollateral
    ∧ (pair shared (record .queued) later).parks (record .queued)
    ∧ (pair shared (record .queued) later).parks later
    ∧ (pair shared (record .queued) strict).parks (record .queued)
    ∧ (pair willing (record .queued) later).grantStays (record .queued)
    ∧ (let q : TRecord := { later with station := .b, target := 0 };
      (pair shared (record .queued) q).grantStays q
      ∧ ((pair shared (record .queued) q).movesOf q) = []) := by
  refine ⟨by decide +kernel, .inl ⟨rfl, by decide +kernel⟩,
    .inr (.inl ⟨rfl, by decide +kernel, by decide +kernel⟩),
    .inr (.inr ⟨rfl, ⟨by decide +kernel, by decide +kernel⟩, by decide +kernel, rfl⟩),
    (parks_shared _ (by simp)).1, (parks_shared _ (by simp)).1, (parks_shared later (by simp)).2,
    ⟨⟨by decide +kernel, by decide +kernel⟩, .inr rfl, ?_, .inr ⟨.a, by decide +kernel⟩⟩,
    ⟨⟨by decide +kernel, by decide +kernel⟩, .inr rfl, ?_, .inl (by decide +kernel)⟩,
    by decide +kernel⟩
  · intro q
    cases q <;> decide +kernel
  · intro q
    cases q <;> decide +kernel

/-- Bodies of 2 and 250 bytes, and of 1 and 251; a collecting and a hunting assembler. -/
theorem witness_LinksReceive :
    State.reset.por = false
    ∧ (2 ≤ [0x20, (0 : Byte)].length ∧ (List.replicate 250 (0 : Byte)).length ≤ 250)
    ∧ ([(0 : Byte)].length < 2 ∧ 250 < (List.replicate 251 (0 : Byte)).length)
    ∧ (after (.startByte .monitor) State.reset).isCollecting .monitor = true
    ∧ State.reset.isCollecting (.port .c) = false := by decide +kernel

theorem witness_SampleSetsNotTaken :
    (bodyFits [] = false ∧ sampleSet? [0x60, 0, 3, 1, 0, 0, 0, 0, 0] = none)
    ∧ (bodyFits goodSet = true ∧ (sampleSet? goodSet).map Prod.fst = some .a)
    ∧ (State.reset.por = false ∧ State.reset.mode = .config)
    ∧ ((site [] .none .none).station .c).present = false
    ∧ ((site [] .none .mixed).station .a).state = .none
    ∧ ((site [] .none .mixed).station .b).state = .mixed
    ∧ (∃ r f, (moving .aborting flight).flying = some (r, f) ∧ f.muteSet.has .a = true
      ∧ r.stage = .aborting)
    ∧ (let s := site [atA] (.steady 0) .none;
      s.ignoresSet .a = false ∧ (s.currentPattern .a).isSome = true
      ∧ sampleSetValid (pattern [some .a]) [⟨0, 0, 0⟩, ⟨1, 5, 0⟩] = false) :=
  ⟨by decide +kernel, by decide +kernel, by decide +kernel, by decide +kernel, by decide +kernel,
    by decide +kernel, ⟨_, _, rfl, by decide +kernel⟩, by decide +kernel⟩

/-- The flag clear and set, the class kept and changed. -/
theorem witness_SteadySetBringsClassesForward :
    (let s := site [atA] (.steady 0) .none;
      s.por = false ∧ bodyFits goodSet = true
      ∧ sampleSet? goodSet = some (.a, [⟨0, 40000, 0⟩, ⟨1, 36000, 900⟩])
      ∧ s.ignoresSet .a = false ∧ (s.station .a).state = .steady 0
      ∧ s.currentPattern .a = some (pattern [some .a])
      ∧ sampleSetValid (pattern [some .a]) [⟨0, 40000, 0⟩, ⟨1, 36000, 900⟩] = true
      ∧ (s.conf .a).lost = false
      ∧ ((after (.sampleSet goodSet) s).conf .a).stationClass = (s.conf .a).stationClass)
    ∧ ((capsSite (.steady 0) .inBand true).conf .a).lost = true
    ∧ (let w : TowerRecord := TowerRecord.formed 1;
      w.raw = w.current
      ∧ (w.current.rank < Grade.out.rank ∧ w.escalate + 1 = 1 ∧ w.escalate + 1 ≠ 8)
      ∧ (Grade.inBand.rank < Grade.out.rank ∧ w.deescalate + 1 = 1 ∧ w.deescalate + 1 ≠ 15)) := by
  decide +kernel

/-- A passing set below and at the proof count of 2, and a failing one. -/
theorem witness_ProvingSetMovesTheProofRun :
    (let s := flown (site [atB] (.proving 1) .none) .proving { flight with proofRun := 1 };
      (s.por = false ∧ s.mode = .run ∧ bodyFits goodSet = true
        ∧ sampleSet? goodSet = some (.a, [⟨0, 40000, 0⟩, ⟨1, 36000, 900⟩])
        ∧ (s.station .a).present = true ∧ (s.station .a).state = .proving 1
        ∧ s.slot .a 1 = some (pattern [some .b])
        ∧ sampleSetValid (pattern [some .b]) [⟨0, 40000, 0⟩, ⟨1, 36000, 900⟩] = true)
      ∧ s.fliesAlone { record .proving with flight := some { flight with proofRun := 1 } }
          { flight with proofRun := 1 })
    ∧ (let passing := fun (a : Nat) => [TowerRecord.formed 0, TowerRecord.formed 1].all (fun w =>
        (measureTower (pattern [some .b]) [⟨0, 40000, 0⟩, ⟨1, a, 900⟩] w).raw != .out);
      passing 36000 = true ∧ passing 1 = false ∧ 1 + 1 = (pattern [some .b]).proofCount
      ∧ 0 + 1 ≠ (pattern [some .b]).proofCount) :=
  ⟨⟨by decide +kernel, ⟨rfl, rfl, rfl⟩⟩, by decide +kernel⟩

theorem witness_PowerReportFollowsTable :
    State.reset.por = false ∧ State.reset.engine = .free ∧ (State.reset.station .a).present = true
    ∧ (State.reset.station .c).present = false ∧ powerReport? [0x61, 0, 1] = none := by
  decide +kernel

/-- A port with a reply and a notice, in both orders, and with one of them or none. -/
theorem witness_TransmitSidesKeepTheOrder :
    let q : Port := { Port.reset with sending := some (.notice 0 .localEntered) };
    let r : Reply := ⟨0xA0, 1, .ok, 0, []⟩;
    (State.reset.por = false ∧ (State.reset.port .a).reply = none
      ∧ (State.reset.port .a).notices = [] ∧ (State.reset.port .a).sending = none)
    ∧ (let q := Port.handed .localEntered (Port.answered 0xA0 1 .ok [] q);
      q.reply = some (0, r) ∧ q.notices = [(1, .localEntered)])
    ∧ (let q := Port.answered 0xA0 1 .ok [] (Port.handed .localEntered q);
      q.reply = some (1, r) ∧ q.notices = [(0, .localEntered)] ∧ q.sending.isSome = true) := by
  decide +kernel

/-- Each clause of LOAD SITE, and the two of LOAD STATION at the ends of the ranges. -/
theorem witness_LoadSiteAndStation :
    ((ready []).takes .a (.loadSite .a 1 0 4 600 60) ∧ (ready []).mode = .config
      ∧ (ready []).driveJob = none ∧ ((ready []).station .c).present = false)
    ∧ ((driving job).takes .a (.loadSite .a 1 0 4 600 60) ∧ (driving job).driveJob.isSome = true)
    ∧ (ready []).takes .a (.loadSite .a 1 0 5 0 61)
    ∧ (let s := (ready []).modStation .c (fun r => { r with present := true });
      s.takes .a (.loadSite .a 1 0 1 1 1) ∧ (s.station .c).present = true)
    ∧ ((ready []).takes .a (.loadSite .a 1 1 1 1 1) ∧ (ready []).ConfigSilent)
    ∧ ((ready []).takes .b (.loadStation .b 1 2 100 5000 100 1 1 8 1) ∧ stationOf? 2 = some .c)
    ∧ (ready []).takes .b (.loadStation .b 1 3 101 5001 99 0 0 9 16) :=
  ⟨⟨takes_of (by decide +kernel), rfl, rfl, rfl⟩, ⟨takes_of (by decide +kernel), rfl⟩,
    takes_of (by decide +kernel), ⟨takes_of (by decide +kernel), rfl⟩,
    ⟨takes_of (by decide +kernel), ready_silent _⟩, ⟨takes_of (by decide +kernel), rfl⟩,
    takes_of (by decide +kernel)⟩

/-- A range past K95, an entry that fails, a drive job, and entries over a used and an unused one. -/
theorem witness_LoadMapAppliesTheEntries :
    ((ready [atA]).takes .a (.loadMap .a 1 95 2 [⟨0, 1, 50⟩, ⟨0, 1, 50⟩]) ∧ 96 < 95 + 2)
    ∧ ((ready [atA]).takes .a (.loadMap .a 1 94 2 [⟨0, 1, 50⟩, ⟨15, 1, 50⟩])
      ∧ mapEntriesFrom 94 [⟨0, 1, 50⟩, ⟨15, 1, 50⟩] = .error 95)
    ∧ ((driving job).takes .a (.loadMap .a 1 0 1 [⟨0, 1, 50⟩])
      ∧ (driving job).driveJob.isSome = true)
    ∧ ((ready [atA]).takes .a (.loadMap .a 1 0 2 [⟨1, 1, 50⟩, ⟨1, 1, 50⟩])
      ∧ mapEntriesFrom 0 [⟨1, 1, 50⟩, ⟨1, 1, 50⟩]
        = .ok [⟨.tower 1, ⟨true, false, false⟩, 0, 500⟩, ⟨.tower 1, ⟨true, false, false⟩, 0, 500⟩]
      ∧ (ready [atA]).driveJob = none ∧ (ready [atA]).rangeTravels 0 2 = false
      ∧ (ready [atA]).contactors.length = 96)
    ∧ (ready [atA]).ConfigSilent
    ∧ (((ready [atA]).contactor 0).used = true ∧ ((ready [atA]).contactor 1).used = false)
    ∧ (mapEntry? ⟨1, 1, 50⟩ = some ⟨.tower 1, ⟨true, false, false⟩, 0, 500⟩
      ∧ (⟨true, false, false⟩ : StationSet).isEmpty = false
      ∧ (∀ j < 2, j ≠ 1 → ((ready [atA]).contactor (0 + j)).used = true)
      ∧ faultOfDerivation (((ready [atA]).contactor 1).debounced.getD .none) = some .lost)
    ∧ mapEntry? ⟨13, 0x32, 200⟩ = some ⟨.phasor .b, ⟨false, true, false⟩, 3, 2000⟩ :=
  ⟨⟨takes_of (by decide +kernel), by decide⟩, ⟨takes_of (by decide +kernel), by rfl⟩,
    ⟨takes_of (by decide +kernel), rfl⟩,
    ⟨takes_of (by decide +kernel), by rfl, rfl, by decide +kernel, by decide +kernel⟩,
    ready_silent _, by decide +kernel, by decide +kernel, by decide⟩

/-- A header at the edge of R22 and one past it; slots EMPTY and LOADED. -/
def header (lp : Half) : RawHeader := ⟨0, lp, 30, 50, 20, 30, 800, 200, 250, 2000, 2, 60⟩

/-- CONFIG with A's slot 0 LOADED. -/
def loaded : State := (ready [atA]).setSlot .a 0 (some (pattern [some .a]))

theorem witness_LoadPatternAndPositions :
    (loaded.takes .a (.loadPattern .a 1 0 0 1 [⟨0, 1000, 0⟩] (header 1000))
      ∧ headerOk 1 [⟨0, 1000, 0⟩] (header 1000) = true ∧ (loaded.slot .a 0).isSome = true
      ∧ loaded.slot .a 1 = none)
    ∧ headerOk 1 [⟨0, 1000, 0⟩] (header 1001) = false
    ∧ (headerOk 2 [⟨7, 4000, 3599⟩, ⟨0, 1000, 0⟩] (header 1) = true
      ∧ (patternOf [⟨7, 4000, 3599⟩, ⟨0, 1000, 0⟩] (header 1) []).towers
        = [⟨0, 1000, 0⟩, ⟨7, 4000, 3599⟩])
    ∧ loaded.takes .a (.loadPattern .a 1 3 4 1 [⟨0, 1000, 0⟩] (header 1000))
    ∧ (loaded.takes .a (.loadPositions .a 1 0 0 1 [1, 2, 2, 2, 2, 2, 2, 2])
      ∧ banksOf 1 = [0]
      ∧ (∀ e ∈ bankEntries 1 [1, 2, 2, 2, 2, 2, 2, 2], loaded.entryFails .a e = false)
      ∧ (pattern [some .a]).positions.length = 96)
    ∧ (loaded.takes .a (.loadPositions .a 1 0 0 1 [1, 1, 2, 2, 2, 2, 2, 2])
      ∧ (bankEntries 1 [1, 1, 2, 2, 2, 2, 2, 2]).find? (loaded.entryFails .a) = some (1, 1))
    ∧ (loaded.takes .a (.loadPositions .a 1 0 0 0xF000 []) ∧ banksOf 0xF000 = [])
    ∧ loaded.takes .a (.loadPositions .a 1 3 4 0 []) :=
  ⟨⟨takes_of (by decide +kernel), by decide +kernel, by decide +kernel, by decide +kernel⟩,
    by decide +kernel, by decide +kernel, takes_of (by decide +kernel),
    ⟨takes_of (by decide +kernel), by decide +kernel, by decide +kernel, by decide +kernel⟩,
    ⟨takes_of (by decide +kernel), by decide +kernel⟩,
    ⟨takes_of (by decide +kernel), by decide +kernel⟩, takes_of (by decide +kernel)⟩

theorem witness_ClearSlotEmptiesTheSlot :
    (loaded.takes .a (.clearSlot .a 1 0 0) ∧ loaded.mode = .config
      ∧ (loaded.slot .a 0).isSome = true ∧ loaded.slot .a 3 = none)
    ∧ (loaded.takes .a (.clearSlot .a 1 3 4) ∧ 2 < (3 : Byte).toNat ∧ 3 < (4 : Byte).toNat)
    ∧ ((site [] .none .none).takes .a (.clearSlot .a 1 0 0) ∧ (site [] .none .none).mode = .run) :=
  ⟨⟨takes_of (by decide +kernel), rfl, by decide +kernel, by decide +kernel⟩,
    ⟨takes_of (by decide +kernel), by decide, by decide⟩, ⟨takes_of (by decide +kernel), rfl⟩⟩

/-- Bank 0 with K0 at B and at A, a value past 2, no bank, before scan ready, not COLD, with HOLD. -/
theorem witness_DriveFormsAJob :
    let ps : List Byte := [1, 2, 2, 2, 2, 2, 2, 2]
    let s := chilled (ready [atA]);
    (s.takes .a (.drive .a 1 1 ps) ∧ s.mode = .config ∧ ps.length = 8 * (banksOf 1).length
      ∧ ps.any (fun b => (positionOf? b).isNone) = false ∧ s.driveJob = none ∧ s.scanReady = true
      ∧ (s.formDrive .a (bankEntries 1 ps)).moves = [⟨0, .b⟩] ∧ s.hold = false
      ∧ 1 ≤ s.site.strokeWidth ∧ s.contactors.length = 96)
    ∧ s.ConfigSilent
    ∧ (∀ st, (s.station st).present = true → (s.permit st).cold = .cold)
    ∧ (∀ y, (s.contactor 0).state ≠ .travel y)
    ∧ (s.formDrive .a (bankEntries 1 (List.replicate 8 2))).moves = []
    ∧ ({ s with hold := true } : State).takes .a (.drive .a 1 1 ps)
    ∧ ((3 :: ps.tail).any (fun b => (positionOf? b).isNone) = true ∧ banksOf 0 = [])
    ∧ (State.reset.takes .a (.drive .a 1 1 ps) ∧ State.reset.scanReady = false)
    ∧ ((ready [atA]).takes .a (.drive .a 1 1 ps) ∧ ((ready [atA]).permit .a).cold ≠ .cold) := by
  refine ⟨⟨takes_of (by decide +kernel), rfl, by decide +kernel, by decide +kernel, rfl, rfl,
    by decide +kernel, rfl, by decide +kernel, by decide +kernel⟩, ?_, ?_, ?_, by decide +kernel,
    takes_of (by decide +kernel), by decide +kernel, ⟨takes_of (by decide +kernel), rfl⟩,
    ⟨takes_of (by decide +kernel), by decide +kernel⟩⟩
  · refine fun _ => ⟨rfl, ?_, fun st => ?_⟩
    · intro id h
      cases h
    · cases st <;> exact ⟨rfl, rfl, rfl⟩
  · intro st
    cases st <;> decide +kernel
  · intro y
    cases y <;> decide +kernel

/-- CONFIG with a LOADED slot for A and for B. -/
def lockable : State := loaded.setSlot .b 0 (some (pattern []))

theorem witness_LockEntersRun :
    (lockable.takes .a (.lock .a 1) ∧ lockable.mode = .config ∧ lockable.driveJob = none
      ∧ lockable.scanReady = true ∧ lockable.lockFlaw = none)
    ∧ lockable.ConfigSilent
    ∧ ((lockable.station .a).present = true ∧ lockable.recognisedSlot .a = some 0
      ∧ lockable.slot .a 0 = some (pattern [some .a]))
    ∧ (loaded.takes .a (.lock .a 1) ∧ loaded.lockFlaw = some (.noSlot .b)
      ∧ (loaded.station .b).present = true)
    ∧ (∀ o ∈ loaded.slots.get .b, o = none)
    ∧ (State.reset.takes .a (.lock .a 1) ∧ State.reset.scanReady = false) := by
  refine ⟨⟨takes_of (by decide +kernel), rfl, rfl, rfl, by decide +kernel⟩, ?_, by decide +kernel,
    ⟨takes_of (by decide +kernel), by decide +kernel, rfl⟩, by decide +kernel,
    ⟨takes_of (by decide +kernel), rfl⟩⟩
  refine fun _ => ⟨rfl, ?_, fun st => ?_⟩
  · intro id h
    cases h
  · cases st <;> exact ⟨rfl, rfl, rfl⟩

/-- RUN under HOLD. -/
def heldSite : State := { site [atA] (.steady 0) .none with hold := true }

theorem witness_RequestIsJudgedAndQueued :
    (heldSite.takes .a (.request .a 1 1 0 900) ∧ heldSite.mode = .run
      ∧ (heldSite.station .a).present = true ∧ slotOf? 1 = some 1
      ∧ (heldSite.slot .a 1).isSome = true ∧ (heldSite.station .a).state ≠ .steady 1
      ∧ compatible (heldSite.combination .a 1) = true ∧ heldSite.hold = true
      ∧ heldSite.queuedOf .a = none ∧ heldSite.nextId ∉ heldSite.queue.map TRecord.id)
    ∧ heldSite.QueueOrdered
    ∧ ((queued heldSite).takes .a (.request .a 1 1 0 900)
      ∧ (queued heldSite).queuedOf .a = some (record .queued))
    ∧ (queued heldSite).QueueOrdered
    ∧ (let s := site [atA] (.steady 0) .none;
      s.takes .a (.request .a 1 1 0 900) ∧ s.engine = .free ∧ s.hold = false ∧ s.QueueOrdered)
    ∧ (heldSite.takes .a (.request .a 1 4 0 0) ∧ 3 < (4 : Byte).toNat)
    ∧ (heldSite.takes .a (.request .a 1 3 0 0) ∧ heldSite.slot .a 3 = none)
    ∧ (heldSite.takes .a (.request .a 1 0 0 0) ∧ heldSite.allSatisfied .a 0 = true)
    ∧ (rival.takes .a (.request .a 1 1 0 0) ∧ compatible (rival.combination .a 1) = false) :=
  ⟨⟨takes_of (by decide +kernel), rfl, rfl, rfl, by decide +kernel, by decide +kernel,
      by decide +kernel, rfl, rfl, by decide +kernel⟩,
    by simp [State.QueueOrdered, heldSite, site, ready, State.reset],
    ⟨takes_of (by decide +kernel), rfl⟩, queued_ordered _ rfl rfl rfl,
    ⟨takes_of (by decide +kernel), rfl, rfl,
      by simp [State.QueueOrdered, site, ready, State.reset]⟩,
    ⟨takes_of (by decide +kernel), by decide⟩, ⟨takes_of (by decide +kernel), by decide +kernel⟩,
    ⟨takes_of (by decide +kernel), by decide +kernel⟩,
    ⟨takes_of (by decide +kernel), by decide +kernel⟩⟩

theorem witness_CancelByStage :
    (∀ g, g ≠ .queued → (moving g flight).takes .a (.cancel .a 1 1)
      ∧ (moving g flight).mode = .run ∧ ((moving g flight).station .a).present = true
      ∧ (moving g flight).record? (1 : Byte).toNat = some { record g with flight := some flight }
      ∧ (moving g flight).fliesAlone { record g with flight := some flight } flight)
    ∧ flight.collateral.has .a = false
    ∧ ((queued heldSite).takes .a (.cancel .a 1 1)
      ∧ (queued heldSite).record? (1 : Byte).toNat = some (record .queued)
      ∧ (queued heldSite).engine ≠ .transition (record .queued).id)
    ∧ (heldSite.takes .a (.cancel .a 1 255) ∧ heldSite.record? (255 : Byte).toNat = none) :=
  ⟨fun g _ => ⟨takes_of (by cases g <;> decide +kernel), rfl, rfl, rfl, moving_flies _ _⟩,
    by decide +kernel, ⟨takes_of (by decide +kernel), rfl, by decide +kernel⟩,
    ⟨takes_of (by decide +kernel), rfl⟩⟩

theorem witness_ConsentAndLimit :
    (heldSite.takes .a (.consent .a 1 1) ∧ heldSite.mode = .run
      ∧ (heldSite.station .a).present = true ∧ consentOf? 1 = some .deny ∧ heldSite.hold = true
      ∧ (heldSite.station .a).consent ≠ .deny)
    ∧ (heldSite.takes .a (.consent .a 1 2) ∧ 1 < (2 : Byte).toNat)
    ∧ heldSite.takes .a (.limit .a 1 1001) :=
  ⟨⟨takes_of (by decide +kernel), rfl, rfl, rfl, rfl, by decide +kernel⟩,
    ⟨takes_of (by decide +kernel), by decide⟩, takes_of (by decide +kernel)⟩

theorem witness_SyncWaitsForTheRecords :
    (heldSite.takes .a (.sync .a 1) ∧ heldSite.mode = .run ∧ (heldSite.station .a).present = true
      ∧ ∀ r ∈ heldSite.queue, r.station ≠ .a)
    ∧ ((queued heldSite).takes .a (.sync .a 1)
      ∧ ∃ r ∈ (queued heldSite).queue, r.station = .a) :=
  ⟨⟨takes_of (by decide +kernel), rfl, rfl, by decide +kernel⟩,
    ⟨takes_of (by decide +kernel), record .queued, by decide +kernel⟩⟩

/-- OPEN, STOPPED and LOCAL; stations and slots at and past their ends. -/
theorem witness_ReadsReportAndChangeNothing :
    (∀ x, (portAt x true heldSite).begins .a [0x20, 1] = true)
    ∧ (∀ x, ∀ body ∈ [[0x24, 1], [0x25, 1], [0x21, 1, 95, 1], [0x21, 1, 95, 2], [0x22, 1, 2, 3],
        [0x22, 1, 3, 4], [0x23, 1, 2], [0x23, 1, 3], [0x26, 1, 2], [0x26, 1, (3 : Byte)]],
      (portAt x true heldSite).begins .a body = true)
    ∧ (((portAt .isLocal true heldSite).port .a).state ≠ .isStopped
      ∧ stationOf? 2 = some .c ∧ slotOf? 3 = some 3)
    ∧ (∀ c, c ≤ 40 → (⟨0xA1, 1, .ok, 0, heldSite.contactorsFields 0 c⟩ : Reply).fields
      = heldSite.contactorsFields 0 c) :=
  ⟨fun x => by cases x <;> decide +kernel, fun x => by cases x <;> decide +kernel,
    by decide +kernel, fun _ _ => rfl⟩

theorem witness_ClearsActOnTheirBlocks :
    (heldSite.takes .a (.clearClipLog .a 1 255) ∧ (heldSite.station .a).present = true)
    ∧ (heldSite.takes .a (.clearClipLog .a 1 256) ∧ 255 < (256 : Half).toNat)
    ∧ (heldSite.takes .c (.clearClipLog .c 1 0) ∧ (heldSite.station .c).present = false)
    ∧ (nearFull.takes .a (.clearFault .a 1 13) ∧ nearFull.faults.records.length = 14)
    ∧ nearFull.takes .a (.clearFault .a 1 14) ∧ nearFull.takes .a (.clearFault .a 1 16)
    ∧ (nearFull.takes .a (.clearFault .a 1 255) ∧ nearFull.faults ≠ ⟨[], false, 0⟩)
    ∧ (heldSite.takes .a (.clearFault .a 1 255) ∧ heldSite.faults = ⟨[], false, 0⟩) :=
  ⟨⟨takes_of (by decide +kernel), rfl⟩, ⟨takes_of (by decide +kernel), by decide⟩,
    ⟨takes_of (by decide +kernel), rfl⟩, ⟨takes_of (by decide +kernel), by decide +kernel⟩,
    takes_of (by decide +kernel), takes_of (by decide +kernel),
    ⟨takes_of (by decide +kernel), by decide +kernel⟩, ⟨takes_of (by decide +kernel), rfl⟩⟩

theorem witness_IllegalStopsAndResumeOpens :
    (∀ x, (portAt x true heldSite).begins .a [0x0F, 7] = true
      ∧ (portAt x true heldSite).begins .a [0x29, 7] = true
      ∧ ((portAt x true heldSite).port .a).state = x)
    ∧ decodeCommand? .a [0x0F, 7] = none
    ∧ ((portAt .isOpen true heldSite).begins .a (recordBody (.loadMap .a 7 0 2 [⟨0, 1, 50⟩])) = true
      ∧ [(⟨0, 1, 50⟩ : RawMapEntry)].length ≠ (2 : Byte).toNat) :=
  ⟨fun x => by cases x <;> decide +kernel, by decide +kernel, by decide +kernel⟩

/-- LOCK, REQUEST and CLEAR FAULT in the states that turn them away, and a port that cannot begin. -/
theorem witness_RefusedCommandsChangeNothing :
    (∀ i ∈ [Instr.lock .a 1, .request .a 1 0 0 0, .clearFault .a 1 0],
      wellFormed i = true
      ∧ (∀ b ∈ (encodeRecord i).toList, (decodeCommand? .a b.2).isSome = true)
      ∧ (portAt .isStopped false heldSite).begins .a (recordBody i) = true
      ∧ (portAt .isLocal false heldSite).begins .a (recordBody i) = true
      ∧ (portAt .isOpen false heldSite).begins .a (recordBody i) = true
      ∧ State.reset.begins .a (recordBody i) = true
      ∧ (State.reset.modPort .a (fun q => { q with executing := some ⟨1, [1]⟩ })).begins .a
          (recordBody i) = false)
    ∧ (heldSite.takes .c (.sync .c 1) ∧ (heldSite.station .c).present = false)
    ∧ (heldSite.mode = .run ∧ State.reset.mode = .config) :=
  ⟨by decide +kernel, ⟨takes_of (by decide +kernel), rfl⟩, rfl, rfl⟩

theorem witness_DecodeOfEncode :
    wellFormed (.drive .a 1 0x0800 (List.replicate 8 2)) = true
    ∧ encodeRecord (.drive .a 1 0x0800 (List.replicate 8 2))
      = some (.a, [0x07, 1, 0x08, 0x00, 2, 2, 2, 2, 2, 2, 2, 2]) := by decide +kernel

theorem witness_RecordsKeepEveryByte :
    bodyFits [0x14, 0xFF] = true ∧ decodeCommand? .c [0x14, 0xFF] = some (.sync .c 0xFF) := by
  decide +kernel

theorem witness_TowerArithmetic :
    (0 < 10000 ∧ 60000 * 1000 / 10000 > 4000 ∧ 40000 * 1000 / 10000 ≤ 4000)
    ∧ (0 < 1 ∧ 4000 ≤ 4000) ∧ (3599 ≤ 3599 ∧ (1800 : Int) < 3599 - 0 ∧ (0 : Int) - 3599 ≤ -1800)
    ∧ ((pattern []).ratioCaution ≤ (pattern []).ratioOut
      ∧ (pattern []).phaseCaution ≤ (pattern []).phaseOut) := by decide +kernel

/-- A fault the list holds, one it has room for, and one that meets a full list. -/
theorem witness_FaultListTakesAFault :
    (∃ r ∈ nearFull.faults.records, r.source = .contactor 13 ∧ r.kind = .lost)
    ∧ ((∀ r ∈ nearFull.faults.records, ¬(r.source = .contactor 40 ∧ r.kind = .stuck))
      ∧ nearFull.faults.records.length < 16)
    ∧ (let s := (nearFull.raiseFault (.contactor 40) .stuck).raiseFault (.station .b) .linkSilent;
      (∀ r ∈ s.faults.records, ¬(r.source = .contactor 40 ∧ r.kind = .lost))
      ∧ 16 ≤ s.faults.records.length) := by decide +kernel

/-- The part after reset meets every invariant, and a step leads on from it. -/
theorem witness_StepKeeps :
    (∃ t, step State.reset = .next t)
    ∧ State.reset.ClipLogHolds ∧ State.reset.PermitsBounded ∧ State.reset.FaultListBounded
    ∧ State.reset.LinksBounded ∧ State.reset.ConfigSilent ∧ State.reset.CoilsFollow
    ∧ State.reset.JobsAccounted ∧ State.reset.QueueOrdered := by
  refine ⟨⟨_, rfl⟩, ?_, ?_, ?_, ?_, ?_, ?_, ?_, ?_⟩
  · intro st c h
    cases st <;> cases c <;> simp_all [State.permit, PerStation.get, State.reset, Permit.reset,
      Permit.absent, CauseSet.empty, CauseSet.has]
  · intro st
    cases st <;> simp [State.permit, State.station, PerStation.get, State.reset, Permit.reset,
      Permit.absent, StationRecord.reset, Config.fullScale]
  · simp [State.FaultListBounded, State.reset]
  · refine ⟨?_, ?_, ?_, ?_⟩
    · intro p
      cases p <;> simp [Port.Bounded, State.port, PerStation.get, State.reset, Port.reset]
    · intro st
      cases st <;> simp [State.transmitter, PerStation.get, State.reset, TransmitterLink.reset]
    · simp [State.reset]
    · intro st
      cases st <;> simp [PerStation.get, State.reset]
  · intro _
    refine ⟨rfl, ?_, fun st => ?_⟩
    · intro id h
      cases h
    · cases st <;> exact ⟨rfl, rfl, rfl⟩
  · refine ⟨by decide +kernel, ?_⟩
    intro c hc
    have : c = Contactor.reset .none := List.eq_of_mem_replicate hc
    subst this
    exact ⟨⟨rfl, rfl, rfl⟩, fun _ => ⟨rfl, rfl⟩⟩
  · refine ⟨?_, ?_, ?_⟩
    · intro r f h
      cases h
    · intro j h
      cases h
    · intro _ id h
      cases h
  · simp [State.QueueOrdered, State.reset]

theorem witness_OutputRisesOnlyByTheRamp :
    exec (.rampTick .a) State.reset = .next (after (.rampTick .a) State.reset) := rfl

/-- A LOCK that enters RUN, a command that stays in it, and the power-on reset that leaves it. -/
theorem witness_RunFixesTheTables :
    (lockable.mode = .config ∧ (after (.lock .a 1) lockable).mode = .run)
    ∧ (heldSite.mode = .run ∧ (after (.limit .a 1 500) heldSite).mode = .run)
    ∧ (after (.powerOnReset false) heldSite).mode = .config := by decide +kernel

/-- K0 and K1, of stages 0 and 1, in MOVING: K0 travels and is about to arrive, K1 waits. -/
def staged (hold : Bool) (f : Flight) : State :=
  let later : Contactor := { atA with map := { atA.map with stage := 1 } };
  chilled { flown (site [nearB, later] (.steady 0) (.steady 0)) .moving f with hold := hold }

/-- What the engine keeps for it. -/
def bothMoves : Flight :=
  { withB flight with moves := [⟨0, .b⟩, ⟨1, .b⟩], waiting := [⟨1, .b⟩], holdStart := some 0 }

/-- The current stage still travels, and has arrived. -/
theorem witness_MovingOrdersItsStarts :
    (let s := cooling .moving waiting;
      (s.por = false ∧ s.contactors.length = 96 ∧ waiting.muteSet.has .a = true
        ∧ (s.permit .a).cold ≠ .unknown ∧ (s.permit .a).reportExpiry = some 1000
        ∧ (s.station .a).present = true ∧ (s.permit .a).cold ≠ .hot
        ∧ (s.station .a).coldThreshold < min (half 1 0).toNat 1200
        ∧ (s.permit .a).cold = .cooling ∧ (s.permit .a).dwellExpiry = some 500)
      ∧ s.fliesAlone { record .moving with flight := some waiting } waiting
      ∧ (s.hold = false ∧ s.nextAlone waiting ⟨0, .b⟩)
      ∧ ((s.modPermit .b (fun p => { p with cold := .hot })).permit .b).cold ≠ .cold
      ∧ ∀ q, q ≠ .a → waiting.muteSet.has q = true → (s.permit q).cold = .cold)
    ∧ (∀ hold f, (staged hold f).por = false ∧ (staged hold f).contactors.length = 96
      ∧ (staged hold f).fliesAlone { record .moving with flight := some f } f)
    ∧ (let s := staged true bothMoves;
      s.hold = true
      ∧ ∃ k ∈ bothMoves.strokes, ∀ n ∈ bothMoves.waiting,
          (s.contactor k).map.stage < (s.contactor n.contactor).map.stage)
    ∧ (let f := { bothMoves with strokes := [] };
      (staged true f).hold = true
      ∧ (∀ q, f.muteSet.has q = true → ((staged true f).permit q).cold = .cold)
      ∧ (staged true f).nextAlone f ⟨1, .b⟩)
    ∧ (let s := staged false bothMoves;
      (s.scanReady = true ∧ bothMoves.strokes.contains (0 : Fin 96).val = true
        ∧ (s.contactor (0 : Fin 96).val).used = true
        ∧ (s.contactor (0 : Fin 96).val).state = .travel .b
        ∧ (s.contactor (0 : Fin 96).val).debounceExpiry = some 300
        ∧ (s.contactor (0 : Fin 96).val).raw = .pos .b
        ∧ bothMoves.arrivals + 1 ≠ bothMoves.moves.length ∧ s.hold = false)
      ∧ (s.contactor (0 : Fin 96).val).CoilFollows
      ∧ s.nextAlone { bothMoves with strokes := without 0 bothMoves.strokes, arrivals := 1 }
          ⟨1, .b⟩) := by
  refine ⟨⟨by decide +kernel, ⟨rfl, rfl, rfl⟩, ⟨rfl, ?_⟩, by decide +kernel, ?_⟩,
    fun _ _ => ⟨rfl, rfl, rfl, rfl, rfl⟩, ⟨rfl, by decide +kernel⟩, ⟨rfl, ?_, ?_⟩,
    ⟨by decide +kernel, ⟨rfl, rfl, rfl, rfl⟩, ?_⟩⟩
  · exact nextAlone_of (by decide +kernel) (by decide +kernel) (by decide +kernel)
  · intro q
    cases q <;> decide +kernel
  · intro q
    cases q <;> decide +kernel
  · exact nextAlone_of (by decide +kernel) (by decide +kernel) (by decide +kernel)
  · exact nextAlone_of (by decide +kernel) (by decide +kernel) (by decide +kernel)

end Sys2Proof.Tests
end

section
/-!
SUPPORT. The contactors as an array: what a write to one contactor leaves, when two writes are the
same write, and when a change of contactor leaves every permit as it was (R20). A contactor matters
to the rest of the part by its state alone.
-/

namespace Sys2Proof.Machine

/-! ## Writes to one contactor -/

theorem State.contactor_eq_getElem (s : State) {k : Nat} (h : k < s.contactors.length) :
    s.contactor k = s.contactors[k] := by
  simp [State.contactor, h]

theorem State.contactor_of_length_le (s : State) {k : Nat} (h : s.contactors.length ≤ k) :
    s.contactor k = Contactor.reset .none := by
  simp [State.contactor, List.getD, List.getElem?_eq_none h]

theorem State.contactor_mem (s : State) {k : Nat} (h : k < s.contactors.length) :
    s.contactor k ∈ s.contactors := by
  rw [s.contactor_eq_getElem h]
  exact List.getElem_mem h

theorem State.forall_mem_contactors (s : State) (P : Contactor → Prop) :
    (∀ c ∈ s.contactors, P c) ↔ ∀ k < s.contactors.length, P (s.contactor k) := by
  rw [List.forall_mem_iff_getElem]
  refine forall_congr' fun k => forall_congr' fun h => ?_
  rw [s.contactor_eq_getElem h]

/-- A write depends on what it makes of the contactor it is made to, and on nothing else. -/
theorem State.modContactor_congr (s : State) (k : Nat) {f g : Contactor → Contactor}
    (h : k < s.contactors.length → f (s.contactor k) = g (s.contactor k)) :
    s.modContactor k f = s.modContactor k g := by
  have hl : s.contactors.modify k f = s.contactors.modify k g := by
    refine List.ext_getElem (by simp) fun i hi _ => ?_
    have hi : i < s.contactors.length := by simpa using hi
    rw [List.getElem_modify, List.getElem_modify]
    split
    · next hki =>
      subst hki
      simpa [s.contactor_eq_getElem hi] using h hi
    · rfl
  simp only [State.modContactor, hl]

theorem State.modContactor_modContactor (s : State) (k : Nat) (f g : Contactor → Contactor) :
    (s.modContactor k f).modContactor k g = s.modContactor k (fun c => g (f c)) := by
  simp only [State.modContactor, List.modify_modify_eq]
  rfl

theorem State.modContactor_forall_mem (s : State) (k : Nat) (f : Contactor → Contactor)
    {P : Contactor → Prop} (hs : ∀ c ∈ s.contactors, P c)
    (hf : P (s.contactor k) → P (f (s.contactor k))) :
    ∀ c ∈ (s.modContactor k f).contactors, P c := by
  rw [State.forall_mem_contactors] at hs ⊢
  intro i hi
  rw [State.modContactor_length] at hi
  rw [State.modContactor_contactor]
  split
  · next h =>
    obtain ⟨rfl, -⟩ := h
    exact hf (hs i hi)
  · exact hs i hi

/-- What a write does not change of its contactor stands as it was through the array. -/
theorem State.map_contactors_modContactor {α : Type} (s : State) (k : Nat)
    (f : Contactor → Contactor) (p : Contactor → α)
    (h : p (f (s.contactor k)) = p (s.contactor k)) :
    (s.modContactor k f).contactors.map p = s.contactors.map p := by
  refine List.ext_getElem (by simp [State.modContactor]) fun i hi _ => ?_
  have hi : i < s.contactors.length := by simpa [State.modContactor] using hi
  simp only [State.modContactor, List.getElem_map, List.getElem_modify]
  split
  · next hki =>
    subst hki
    simpa [s.contactor_eq_getElem hi] using h
  · rfl

/-! ## "All satisfied" reads the states (R29, R30) -/

theorem unsatisfied_congr {c d : Contactor} (e : Option Pos) (h : c.state = d.state) :
    unsatisfied c e = unsatisfied d e := by
  cases e with
  | none => rfl
  | some x => simp only [unsatisfied, h]

theorem unsatisfiedCount_congr {cs ds : List Contactor} (positions : List (Option Pos))
    (h : cs.map Contactor.state = ds.map Contactor.state) :
    unsatisfiedCount cs positions = unsatisfiedCount ds positions := by
  induction cs generalizing ds positions with
  | nil =>
    obtain rfl : ds = [] := List.map_eq_nil_iff.mp h.symm
    rfl
  | cons c cs ih =>
    obtain ⟨d, ds, rfl, hd, hds⟩ := List.map_eq_cons_iff.mp h.symm
    cases positions with
    | nil => rfl
    | cons e es =>
      have htail := ih es hds.symm
      simp only [unsatisfiedCount] at htail
      simp only [unsatisfiedCount, List.zip_cons_cons, List.countP_cons, htail,
        unsatisfied_congr e hd]

/-- The answer to "all satisfied" depends on the states of the contactors, the station's state and
its slots. -/
theorem State.currentSatisfied_congr {s t : State} (st : Station)
    (hc : t.contactors.map Contactor.state = s.contactors.map Contactor.state)
    (hst : t.stations = s.stations) (hsl : t.slots = s.slots) :
    t.currentSatisfied st = s.currentSatisfied st := by
  simp only [State.currentSatisfied, State.allSatisfied, State.station, State.slot, hst, hsl,
    unsatisfiedCount_congr _ hc]

/-- A station without a current slot has no requirement (R34). -/
theorem State.currentSatisfied_of_none (s : State) {st : Station}
    (h : (s.station st).state = .none) : s.currentSatisfied st = true := by
  simp [State.currentSatisfied, h, StationState.slot]

/-- A requirement that is not satisfied is one of a STEADY or PROVING station. -/
theorem State.steady_or_proving_of_unsatisfied (s : State) {st : Station}
    (h : s.currentSatisfied st = false) :
    ((s.station st).state.isSteady || (s.station st).state.isProving) = true := by
  unfold State.currentSatisfied at h
  cases hs : (s.station st).state with
  | none => simp [hs, StationState.slot] at h
  | steady n => rfl
  | proving n => rfl
  | mixed => simp [hs, StationState.slot] at h

/-! ## Recomputation (R133, R134) -/

theorem recompute_permit_of_ne (st q : Station) (s : State) (h : q ≠ st) :
    (s.recompute st).permit q = s.permit q := by
  unfold State.recompute
  split
  · dsimp only
    split <;> simp [h, State.makePermit]
  · rfl

theorem recompute_transmitter_of_ne (st q : Station) (s : State) (h : q ≠ st) :
    (s.recompute st).transmitter q = s.transmitter q := by
  unfold State.recompute
  split
  · dsimp only
    split <;> simp [h, State.makePermit]
  · rfl

theorem recomputeAll_permit_of_not_mem (sts : List Station) (q : Station) (s : State)
    (h : q ∉ sts) :
    (s.recomputeAll sts).permit q = s.permit q
      ∧ (s.recomputeAll sts).transmitter q = s.transmitter q := by
  induction sts generalizing s with
  | nil => exact ⟨rfl, rfl⟩
  | cons st rest ih =>
    obtain ⟨hne, hrest⟩ := not_or.mp (mt List.mem_cons.mpr h)
    obtain ⟨hp, ht⟩ := ih (s.recompute st) hrest
    exact ⟨hp.trans (recompute_permit_of_ne st q s hne),
      ht.trans (recompute_transmitter_of_ne st q s hne)⟩

/-- No recomputation of several stations raises an output. -/
theorem recomputeAll_output_le (sts : List Station) (q : Station) (s : State) :
    ((s.recomputeAll sts).permit q).output ≤ (s.permit q).output := by
  induction sts generalizing s with
  | nil => exact Nat.le_refl _
  | cons st rest ih => exact (ih (s.recompute st)).trans (recompute_output_le st q s)

theorem foldl_min_le (l : List Nat) (a : Nat) :
    l.foldl min a ≤ a ∧ ∀ v ∈ l, l.foldl min a ≤ v := by
  induction l generalizing a with
  | nil => simp
  | cons w rest ih =>
    obtain ⟨hacc, hall⟩ := ih (min a w)
    refine ⟨hacc.trans (Nat.min_le_left a w), fun v hv => ?_⟩
    rcases List.mem_cons.mp hv with rfl | hv
    · exact hacc.trans (Nat.min_le_right a v)
    · exact hall v hv

/-- The target lies below the value of every cap that applies (R132). -/
theorem Caps.target_le_of_active (c : Caps) (x : Cause) {v : Nat} (h : (c.cap x).active = some v) :
    c.target ≤ v :=
  (foldl_min_le _ _).2 v (List.mem_filterMap.mpr ⟨x, by cases x <;> decide, h⟩)

/-- R20: a present station with an unsatisfied requirement is recomputed to output 0, by its
CONTACTOR cap. -/
theorem recompute_output_of_unsatisfied (st : Station) (s : State)
    (hp : (s.station st).present = true) (h : s.currentSatisfied st = false) :
    ((s.recompute st).permit st).output = 0 := by
  have hcap : ((s.formCaps st).cap .contactor).active = some 0 := by
    simp [State.formCaps, Caps.cap, Cap.active, s.steady_or_proving_of_unsatisfied h, h]
  have htarget : (s.formCaps st).target = 0 := by
    simpa using Caps.target_le_of_active _ _ hcap
  simp only [State.recompute, hp, if_true]
  split <;> simp [State.makePermit, Permit.recomputed, htarget]

theorem recomputeAll_output_of_unsatisfied (sts : List Station) (st : Station) (s : State)
    (hmem : st ∈ sts) (hp : (s.station st).present = true) (h : s.currentSatisfied st = false) :
    ((s.recomputeAll sts).permit st).output = 0 := by
  induction sts generalizing s with
  | nil => simp at hmem
  | cons q rest ih =>
    by_cases hq : st = q
    · subst hq
      have h0 := recompute_output_of_unsatisfied st s hp h
      have hle := recomputeAll_output_le rest st (s.recompute st)
      exact Nat.le_zero.mp (h0 ▸ hle)
    · have hrest : st ∈ rest := (List.mem_cons.mp hmem).resolve_left hq
      refine ih (s.recompute q) hrest ?_ ?_
      · rw [recompute_frame]
        exact hp
      · rw [recompute_frame]
        exact h

/-! ## A change of contactor (R20) -/

/-- The stations a change of contactor recomputes: those whose answer changes with it. -/
def State.answersChanged (k : Nat) (f : Contactor → Contactor) (s : State) : List Station :=
  allStations.filter (fun st => (s.modContactor k f).currentSatisfied st != s.currentSatisfied st)

theorem State.changeContactor_eq (k : Nat) (f : Contactor → Contactor) (s : State) :
    s.changeContactor k f = (s.modContactor k f).recomputeAll (s.answersChanged k f) := rfl

theorem State.mem_answersChanged {k : Nat} {f : Contactor → Contactor} {s : State} {st : Station} :
    st ∈ s.answersChanged k f
      ↔ (s.modContactor k f).currentSatisfied st ≠ s.currentSatisfied st := by
  simp [State.answersChanged, mem_allStations]

theorem State.changeContactor_congr (s : State) (k : Nat) {f g : Contactor → Contactor}
    (h : k < s.contactors.length → f (s.contactor k) = g (s.contactor k)) :
    s.changeContactor k f = s.changeContactor k g := by
  simp only [State.changeContactor_eq, State.answersChanged, s.modContactor_congr k h]

/-- A change that is seen by no station is a write alone. -/
theorem State.changeContactor_of_unseen (s : State) (k : Nat) {f : Contactor → Contactor}
    (h : ∀ st, (s.modContactor k f).currentSatisfied st = s.currentSatisfied st) :
    s.changeContactor k f = s.modContactor k f := by
  have hnil : s.answersChanged k f = [] := by
    simp [State.answersChanged, h]
  rw [State.changeContactor_eq, hnil]
  rfl

theorem State.currentSatisfied_modContactor (s : State) (k : Nat) {f : Contactor → Contactor}
    (h : (f (s.contactor k)).state = (s.contactor k).state) (st : Station) :
    (s.modContactor k f).currentSatisfied st = s.currentSatisfied st :=
  State.currentSatisfied_congr st (s.map_contactors_modContactor k f Contactor.state h) rfl rfl

/-- A change that leaves the state of the contactor is a write alone. -/
theorem State.changeContactor_of_state_eq (s : State) (k : Nat) {f : Contactor → Contactor}
    (h : (f (s.contactor k)).state = (s.contactor k).state) :
    s.changeContactor k f = s.modContactor k f :=
  s.changeContactor_of_unseen k (s.currentSatisfied_modContactor k h)

/-- A change behind a write that leaves the state of the contactor is one change. -/
theorem State.modContactor_changeContactor (s : State) (k : Nat) {f : Contactor → Contactor}
    (g : Contactor → Contactor) (h : (f (s.contactor k)).state = (s.contactor k).state) :
    (s.modContactor k f).changeContactor k g = s.changeContactor k (fun c => g (f c)) := by
  simp only [State.changeContactor_eq, State.answersChanged, State.modContactor_modContactor,
    s.currentSatisfied_modContactor k h]

theorem State.currentSatisfied_changeContactor (s : State) (k : Nat) (f : Contactor → Contactor)
    (st : Station) :
    (s.changeContactor k f).currentSatisfied st = (s.modContactor k f).currentSatisfied st := by
  rw [changeContactor_frame]
  rfl

/-- R20, R133: what a change of contactor does to the permits. -/
theorem State.changeContactor_permitsFollow (s : State) (k : Nat) (f : Contactor → Contactor) :
    s.permitsFollow (s.changeContactor k f) := by
  intro st
  simp only [s.currentSatisfied_changeContactor k f st]
  refine ⟨fun hsame => ?_, fun hp hnow hwas => ?_⟩
  · have hout : st ∉ s.answersChanged k f := fun h => State.mem_answersChanged.mp h hsame
    exact recomputeAll_permit_of_not_mem _ st (s.modContactor k f) hout
  · have hin : st ∈ s.answersChanged k f := by
      rw [State.mem_answersChanged, hnow, hwas]
      decide
    exact recomputeAll_output_of_unsatisfied _ st (s.modContactor k f) hin hp hnow

end Sys2Proof.Machine
end

section
/-!
SUPPORT. What each operation of the Contactor Table and the Sense Scanner does, said once as one
write to its contactor, one fault and one report: sense events (R9 to R11), travel limits (R15),
derivation (R18). And the events around them: when an expiry is taken, when a report reaches no job
(R16), and when the arbiter stands behind an event (R68).
-/

namespace Sys2Proof.Machine

/-! ## Faults of a contactor (R17) -/

/-- The fault of a contactor handed to the Fault List, if there is one. -/
def State.faulted (k : Nat) (kind : Option FaultKind) (s : State) : State :=
  match kind with
  | none => s
  | some kind => s.contactorFault k kind

theorem State.faulted_frame (k : Nat) (kind : Option FaultKind) (s : State) :
    s.faulted k kind = { s with
      faults := s.faultsAfter s.time (.contactor k) kind, ports := (s.faulted k kind).ports } := by
  cases kind with
  | none => rfl
  | some kind => exact raiseFault_frame (.contactor k) kind s

/-- R17, R20: what a change of one contactor and its fault leave of the part. -/
theorem State.changed_faulted (s : State) {k : Nat} (f : Contactor → Contactor)
    (kind : Option FaultKind) (hk : k < s.contactors.length) :
    let t := (s.changeContactor k f).faulted k kind
    s.sameButArray t ∧ t.time = s.time ∧ t.freeDraw = s.freeDraw
      ∧ t.contactor k = f (s.contactor k) ∧ (∀ j, j ≠ k → t.contactor j = s.contactor j)
      ∧ t.faults = s.faultsAfter s.time (.contactor k) kind
      ∧ (kind = none → t.ports = s.ports) ∧ s.permitsFollow t := by
  intro t
  have hfaults :
      (s.changeContactor k f).faultsAfter (s.changeContactor k f).time (.contactor k) kind
      = s.faultsAfter s.time (.contactor k) kind := by
    rw [changeContactor_frame]
    rfl
  have hports : kind = none → t.ports = s.ports := by
    rintro rfl
    have hframe := congrArg State.ports (changeContactor_frame k f s)
    exact hframe
  have ht : t = { s.changeContactor k f with
      faults := s.faultsAfter s.time (.contactor k) kind, ports := t.ports } := by
    have hframe := State.faulted_frame k kind (s.changeContactor k f)
    rwa [hfaults] at hframe
  clear_value t
  obtain ⟨ps, hps⟩ : ∃ ps, t.ports = ps := ⟨_, rfl⟩
  rw [hps] at ht hports
  subst ht
  refine ⟨?_, by rw [changeContactor_frame], by rw [changeContactor_frame],
    contactor_changeContactor_same k f s hk,
    fun j hj => contactor_changeContactor_of_ne k j f s hj, rfl, hports,
    s.changeContactor_permitsFollow k f⟩
  rw [changeContactor_frame]
  rfl

/-! ## Coils (R13) -/

/-- A contactor that does not travel has no coil energised and no travel time. -/
theorem Contactor.CoilFollows.resting {c : Contactor} (h : c.CoilFollows)
    (hs : ∀ y, c.state ≠ .travel y) :
    c.coil = .off ∧ c.driveStart = none ∧ c.travelExpiry = none := by
  unfold Contactor.CoilFollows at h
  split at h
  · next y hy => exact absurd hy (hs y)
  · exact ⟨h.1, h.2.2⟩
  · exact h
  · exact h
  · exact h

theorem Contactor.CoilFollows.travelling {c : Contactor} (h : c.CoilFollows) {y : Pos}
    (hs : c.state = .travel y) :
    c.coil = .on y ∧ c.commanded = y ∧ c.driveStart.isSome ∧ c.travelExpiry.isSome := by
  simpa only [Contactor.CoilFollows, hs] using h

theorem Contactor.CoilFollows.commanded_of_at {c : Contactor} (h : c.CoilFollows) {x : Pos}
    (hs : c.state = .at x) : c.commanded = x := by
  simp only [Contactor.CoilFollows, hs] at h
  exact h.2.1

/-! ## Sense events (R9 to R11) -/

/-- R16: the report of a sense event. -/
def reportOfSense (k : Nat) : CState → Sense → Option Report
  | .travel y, .pos x => if x = y then some (.arrival k) else none
  | .travel _, .both => some (.failure k .conflict)
  | _, _ => none

theorem stateAfterSense_eq_travel {g : CState} {v : Sense} {y : Pos}
    (h : stateAfterSense g v = .travel y) : g = .travel y := by
  match g with
  | .travel z =>
    cases v with
    | pos x =>
      change (if x = z then CState.at z else CState.travel z) = .travel y at h
      split at h
      · exact nomatch h
      · exact h
    | none => exact h
    | both => exact nomatch h
  | .at _ | .stuck | .lost | .conflict => cases v <;> exact nomatch h

/-- A value that the state shows already, or that a travel passes through, is a debounced value and
no more (R10, log entry 28). -/
theorem Contactor.sensed_of_same {c : Contactor} (h : c.CoilFollows)
    (hs : stateAfterSense c.state c.raw = c.state) : c.sensed = c.settleRaw := by
  unfold Contactor.sensed Contactor.settleRaw
  rw [hs]
  match hc : c.state with
  | .at x =>
    obtain ⟨hcoil, hstart, hlimit⟩ := h.resting (by simp [hc])
    simp [hcoil, hstart, hlimit, h.commanded_of_at hc, ← hc]
  | .travel y =>
    obtain ⟨hcoil, -, -, -⟩ := h.travelling hc
    simp [hcoil, ← hc]
  | .stuck | .lost | .conflict =>
    obtain ⟨hcoil, hstart, hlimit⟩ := h.resting (by simp [hc])
    simp [hcoil, hstart, hlimit, ← hc]

/-- R9, R11: a contactor at rest that is found at a position. -/
theorem Contactor.sensed_of_found {c : Contactor} (h : c.CoilFollows)
    (hrest : ∀ y, c.state ≠ .travel y) {x : Pos} (hs : stateAfterSense c.state c.raw = .at x) :
    c.sensed = Contactor.found x c.settleRaw := by
  obtain ⟨hcoil, hstart, hlimit⟩ := h.resting hrest
  simp [Contactor.sensed, hs, Contactor.found, Contactor.settleRaw, hcoil, hstart, hlimit]

/-- R9, R11: a contactor at rest that is LOST or in CONFLICT. -/
theorem Contactor.sensed_of_flaw {c : Contactor} (h : c.CoilFollows)
    (hrest : ∀ y, c.state ≠ .travel y) (g : CState) (hg : g = .lost ∨ g = .conflict)
    (hs : stateAfterSense c.state c.raw = g) : c.sensed = { c.settleRaw with state := g } := by
  obtain ⟨hcoil, hstart, hlimit⟩ := h.resting hrest
  rcases hg with rfl | rfl <;>
    simp [Contactor.sensed, hs, Contactor.settleRaw, hcoil, hstart, hlimit]

/-- R10: the end of a travel, by arrival or in CONFLICT. -/
theorem Contactor.sensed_of_end {c : Contactor} (h : c.CoilFollows) {y : Pos}
    (htravel : c.state = .travel y) (g : CState) (hg : g = .at y ∨ g = .conflict)
    (hs : stateAfterSense c.state c.raw = g) :
    c.sensed = { c.settleRaw.endTravel with state := g } := by
  obtain ⟨-, hcommanded, -, -⟩ := h.travelling htravel
  rcases hg with rfl | rfl <;>
    simp [Contactor.sensed, hs, Contactor.settleRaw, Contactor.endTravel, hcommanded]

/-- A used contactor is one of the part's (R3). -/
theorem State.lt_length_of_used {s : State} {k : Nat} (h : (s.contactor k).used = true) :
    k < s.contactors.length := by
  by_contra hk
  rw [s.contactor_of_length_le (Nat.le_of_not_lt hk)] at h
  exact absurd h (by decide)

/-- An unused contactor discards a sense event (R3). -/
theorem senseReport_of_unused (s : State) {k : Nat} (v : Sense)
    (h : (s.contactor k).used = false) : s.senseReport k v = (s, none) := by
  simp [State.senseReport, h]

/-- R9 to R11: the sense event of a used contactor is one change, one fault and one report. -/
theorem senseReport_settled (s : State) {k : Nat} (hu : (s.contactor k).used = true)
    (hc : (s.contactor k).CoilFollows) :
    (s.modContactor k Contactor.settleRaw).senseReport k (s.contactor k).raw
      = ((s.changeContactor k Contactor.sensed).faulted k
          (faultOfSense (s.contactor k).state (s.contactor k).raw),
        reportOfSense k (s.contactor k).state (s.contactor k).raw) := by
  have hk := State.lt_length_of_used hu
  have hsettled : (s.modContactor k Contactor.settleRaw).contactor k = (s.contactor k).settleRaw :=
    s.modContactor_contactor_same _ hk
  have hused : (s.contactor k).settleRaw.used = true := hu
  have changes : ∀ (g : Contactor → Contactor) (kind : Option FaultKind) (r : Option Report),
      (s.contactor k).sensed = g (s.contactor k).settleRaw →
      (((s.modContactor k Contactor.settleRaw).changeContactor k g).faulted k kind, r)
        = ((s.changeContactor k Contactor.sensed).faulted k kind, r) := fun g kind r hg => by
    rw [s.modContactor_changeContactor k g rfl, s.changeContactor_congr k fun _ => hg.symm]
  have stays : stateAfterSense (s.contactor k).state (s.contactor k).raw = (s.contactor k).state →
      (s.modContactor k Contactor.settleRaw, (none : Option Report))
        = (s.changeContactor k Contactor.sensed, none) := fun h => by
    rw [s.modContactor_congr k fun _ => (Contactor.sensed_of_same hc h).symm,
      s.changeContactor_of_state_eq k h]
  simp only [State.senseReport, hsettled, hused, Bool.not_true, Bool.false_eq_true, if_false]
  rw [show (s.contactor k).settleRaw.state = (s.contactor k).state from rfl]
  match hs : (s.contactor k).state with
  | .at x =>
    have hrest : ∀ y, (s.contactor k).state ≠ .travel y := by simp [hs]
    cases hv : (s.contactor k).raw with
    | pos y =>
      by_cases hxy : y = x
      · subst hxy
        simpa [faultOfSense, State.faulted, reportOfSense] using stays (by rw [hs, hv]; rfl)
      · simpa [hxy, faultOfSense, State.faulted, reportOfSense] using
          changes _ (some .uncommanded) none
            (Contactor.sensed_of_found hc hrest (by rw [hs, hv]; rfl))
    | none =>
      exact changes _ (some .lost) none
        (Contactor.sensed_of_flaw hc hrest .lost (.inl rfl) (by rw [hs, hv]; rfl))
    | both =>
      exact changes _ (some .conflict) none
        (Contactor.sensed_of_flaw hc hrest .conflict (.inr rfl) (by rw [hs, hv]; rfl))
  | .travel y =>
    cases hv : (s.contactor k).raw with
    | pos x =>
      by_cases hxy : x = y
      · subst hxy
        simpa [faultOfSense, State.faulted, reportOfSense] using
          changes _ none (some (.arrival k))
            (Contactor.sensed_of_end hc hs (.at x) (.inl rfl) (by simp [hs, hv, stateAfterSense]))
      · simpa [hxy, faultOfSense, State.faulted, reportOfSense] using
          stays (by simp [hs, hv, stateAfterSense, hxy])
    | none => exact stays (by rw [hs, hv]; rfl)
    | both =>
      exact changes _ (some .conflict) (some (.failure k .conflict))
        (Contactor.sensed_of_end hc hs .conflict (.inr rfl) (by rw [hs, hv]; rfl))
  | .stuck =>
    have hrest : ∀ y, (s.contactor k).state ≠ .travel y := by simp [hs]
    cases hv : (s.contactor k).raw with
    | pos x =>
      exact changes (Contactor.found x) none none
        (Contactor.sensed_of_found hc hrest (by rw [hs, hv]; rfl))
    | none =>
      exact changes _ (some .lost) none
        (Contactor.sensed_of_flaw hc hrest .lost (.inl rfl) (by rw [hs, hv]; rfl))
    | both =>
      exact changes _ (some .conflict) none
        (Contactor.sensed_of_flaw hc hrest .conflict (.inr rfl) (by rw [hs, hv]; rfl))
  | .lost =>
    have hrest : ∀ y, (s.contactor k).state ≠ .travel y := by simp [hs]
    cases hv : (s.contactor k).raw with
    | pos x =>
      exact changes (Contactor.found x) none none
        (Contactor.sensed_of_found hc hrest (by rw [hs, hv]; rfl))
    | none => exact stays (by rw [hs, hv]; rfl)
    | both =>
      exact changes _ (some .conflict) none
        (Contactor.sensed_of_flaw hc hrest .conflict (.inr rfl) (by rw [hs, hv]; rfl))
  | .conflict =>
    have hrest : ∀ y, (s.contactor k).state ≠ .travel y := by simp [hs]
    cases hv : (s.contactor k).raw with
    | pos x =>
      exact changes (Contactor.found x) none none
        (Contactor.sensed_of_found hc hrest (by rw [hs, hv]; rfl))
    | none =>
      exact changes _ (some .lost) none
        (Contactor.sensed_of_flaw hc hrest .lost (.inl rfl) (by rw [hs, hv]; rfl))
    | both => exact stays (by rw [hs, hv]; rfl)

/-! ## Travel limits (R15) -/

/-- R15 where it gives no end: the travel fails into one of four states (log entry 5). -/
theorem travelFailsFree_cases (k : Nat) (y : Pos) (s : State) :
    ∃ g kind cause, (g = .at y ∨ g = .stuck ∨ g = .lost ∨ g = .conflict)
      ∧ s.travelFailsFree k y
        = ((({ s with freeDraw := s.freeDraw + 1 }).changeContactor k
            (Contactor.failedTo g)).faulted k kind, some (.failure k cause)) := by
  unfold State.travelFailsFree
  dsimp only
  split
  · exact ⟨.at y, none, .stuck, .inl rfl, rfl⟩
  · split
    · exact ⟨.stuck, some .stuck, .stuck, .inr (.inl rfl), rfl⟩
    · split
      · exact ⟨.lost, some .lost, .lost, .inr (.inr (.inl rfl)), rfl⟩
      · exact ⟨.conflict, some .conflict, .conflict, .inr (.inr (.inr rfl)), rfl⟩

/-- R15: the end the rule gives to a travel whose limit expires. -/
theorem travelExpires_of_limitGives (s : State) {k : Nat} {y : Pos} {v : Sense} {g : CState}
    {kind : FaultKind} (hs : (s.contactor k).state = .travel y)
    (hv : (s.contactor k).debounced = some v) (hg : limitGives y v g kind) :
    ∃ cause, s.travelExpires k
      = ((s.changeContactor k (Contactor.failedTo g)).faulted k (some kind),
        some (.failure k cause)) := by
  rcases hg with ⟨x, rfl, hxy, rfl, rfl⟩ | ⟨rfl, rfl, rfl⟩
  · refine ⟨.stuck, ?_⟩
    simp only [State.travelExpires, hs, hv, hxy, if_false]
    rfl
  · refine ⟨.lost, ?_⟩
    simp only [State.travelExpires, hs, hv]
    rfl

/-- R15: without an end of the rule the travel fails into a free value (log entry 5). -/
theorem travelExpires_of_no_limit (s : State) {k : Nat} {y : Pos}
    (hs : (s.contactor k).state = .travel y)
    (hno : ∀ v, (s.contactor k).debounced = some v → ∀ g kind, ¬limitGives y v g kind) :
    s.travelExpires k = s.travelFailsFree k y := by
  simp only [State.travelExpires, hs]
  cases hd : (s.contactor k).debounced with
  | none => rfl
  | some v =>
    cases v with
    | pos x =>
      have hxy : x = y := by
        by_contra hne
        exact hno _ hd .stuck .stuck (.inl ⟨x, rfl, hne, rfl, rfl⟩)
      simp only [hxy, if_true]
    | none => exact absurd (.inr ⟨rfl, rfl, rfl⟩) (hno _ hd .lost .lost)
    | both => rfl

/-! ## Derivation (R18) -/

/-- R18: a derivation is one change and, of a used contactor, one fault. -/
theorem derive_eq (k : Nat) (s : State) :
    s.derive k
      = (s.changeContactor k (Contactor.derive ((s.contactor k).debounced.getD .none))).faulted k
          (if (s.contactor k).used then
            faultOfDerivation ((s.contactor k).debounced.getD .none) else none) := by
  have hused : ∀ v, ((s.changeContactor k (Contactor.derive v)).contactor k).used
      = (s.contactor k).used := fun v => by
    by_cases hk : k < s.contactors.length
    · rw [contactor_changeContactor_same k _ s hk]
      rfl
    · rw [changeContactor_frame]
      simp [State.contactor, List.modify_eq_self (Nat.le_of_not_lt hk)]
  unfold State.derive
  simp only [hused]
  split
  · cases (s.contactor k).debounced.getD .none <;> rfl
  · rfl

/-! ## Expiries, and the arbiter behind an event (R68) -/

theorem onExpiry_of_running {s : State} {e : Nat} (f : State → State) (hp : s.por = false) :
    s.onExpiry (some e) f = f (s.advanceTo e) := by
  simp [State.onExpiry, hp]

/-- An event that leaves the engine as it is has no arbiter's run behind it. -/
theorem thenArbiter_of_engine_eq (f : State → State) (s : State) (h : (f s).engine = s.engine) :
    s.thenArbiter f = f s := by
  refine thenArbiter_of_engine f s ?_
  rw [h]
  exact Decidable.em _

/-- The arbiter's run belongs to the part of an event that can free the engine. -/
theorem thenArbiter_congr {f g : State → State} {s u : State} (hfg : f s = g u)
    (he : u.engine = s.engine) : s.thenArbiter f = u.thenArbiter g := by
  simp only [State.thenArbiter, hfg, he]

/-! ## Reports (R16) -/

theorem State.untold_congr {s t : State} {k : Nat} (h : s.untold k) (he : t.engine = s.engine)
    (hq : t.queue = s.queue) : t.untold k := by
  have hf : t.flying = s.flying := by
    simp only [State.flying, State.record?, he, hq]
  exact ⟨fun r f hrf => h.1 r f (hf ▸ hrf), fun j hj => h.2 j (he ▸ hj)⟩

/-- A report of a contactor that no job drives is dropped. -/
theorem report_of_untold {s : State} {k : Nat} (h : s.untold k) :
    s.reportArrival k = s ∧ s.reportFailure k = s := by
  obtain ⟨hflight, hdrive⟩ := h
  unfold State.reportArrival State.reportFailure
  cases he : s.engine with
  | free => exact ⟨rfl, rfl⟩
  | drive j => simp only [hdrive j he, Bool.false_eq_true, if_false, and_self]
  | transition id =>
    cases hf : s.flying with
    | none => exact ⟨rfl, rfl⟩
    | some rf =>
      simp only [hflight rf.1 rf.2 hf, Bool.false_eq_true, if_false, and_self]

end Sys2Proof.Machine
end

section
/-!
The statements about single contactors: the raw sense value (R6), drive starts (R14), sense events
(R9 to R11) and travel limits (R15).
-/

namespace Sys2Proof.Machine

/-! ## The raw sense value (R6) -/

/-- Settles O11: a running part hands the raw value to the debounce timer of its contactor. -/
theorem rawSenseChangeDebounces : Obligations.RawSenseChangeDebounces := by
  intro s k v hp hne
  have harm : exec (.rawSenseChange k v) s
      = .next (s.modContactor k.val (Contactor.rawChange s.time v)) := by
    simp [exec, execRawSenseChange, hp]
  rw [harm, s.modContactor_congr k.val fun _ => ?_]
  simp [Contactor.rawChange, hne, Config.debounceMs]

/-! ## Drive starts (R14) -/

theorem coldCheck_iff (s : State) (k : Nat) :
    s.coldCheck k = true
      ↔ ∀ st, s.exposed st k = true → (s.permit st).output = 0 ∧ (s.permit st).cold = .cold := by
  simp only [State.coldCheck, List.all_eq_true, mem_allStations, true_implies, Bool.or_eq_true,
    Bool.not_eq_true', Bool.and_eq_true, beq_iff_eq]
  refine forall_congr' fun st => ?_
  cases s.exposed st k <;> simp

/-- R14: a contactor in CONFLICT is not driven. -/
theorem driveStart_of_conflict (s : State) {k : Nat} (y : Pos) (hready : s.scanReady = true)
    (hused : (s.contactor k).used = true) (hs : (s.contactor k).state = .conflict) :
    s.driveStart k y = (.failed .conflict, s) := by
  simp [State.driveStart, hready, hused, hs]

/-- What every answer of a drive start leaves: the other contactors, the faults, the ports, the
stations and the queue. -/
theorem driveStart_frame (s : State) (k : Nat) (y : Pos) :
    (∀ j, j ≠ k → (s.driveStart k y).2.contactor j = s.contactor j)
      ∧ (s.driveStart k y).2.faults = s.faults ∧ (s.driveStart k y).2.ports = s.ports
      ∧ (s.driveStart k y).2.stations = s.stations ∧ (s.driveStart k y).2.queue = s.queue := by
  rcases driveStart_cases k y s with h | ⟨h, -⟩ | ⟨h, -⟩ | ⟨c, h⟩
  · simp [h]
  · rw [h]
    refine ⟨fun j hj => contactor_changeContactor_of_ne k j _ s hj, ?_⟩
    dsimp only
    rw [changeContactor_frame]
    exact ⟨rfl, rfl, rfl, rfl⟩
  · rw [h]
    exact ⟨fun j hj => s.modContactor_contactor_of_ne _ hj, rfl, rfl, rfl, rfl⟩
  · simp [h]

/-- Settles O15, by the four answers of a drive start. -/
theorem driveStartAsksForCold : Obligations.DriveStartAsksForCold := by
  intro s k y hk
  have hconflict : (s.contactor k).state = .conflict → s.scanReady = true →
      (s.contactor k).used = true → (s.driveStart k y).1 = .failed .conflict := fun hs hr hu => by
    rw [driveStart_of_conflict s y hr hu hs]
  have hframe := driveStart_frame s k y
  rcases driveStart_cases k y s with he | ⟨he, hcold, hr, hu, hat, -, hcon⟩ | ⟨he, hat⟩ | ⟨c, he⟩
  · exact ⟨by simp [he], fun _ => by rw [he], by simp [he], by simp [he], hconflict, hframe⟩
  · refine ⟨fun _ => ⟨(coldCheck_iff s k).mp hcold, hr, hu, hat, hcon, ?_⟩, by simp [he],
      by simp [he], by simp [he], hconflict, hframe⟩
    rw [he]
    exact contactor_changeContactor_same k _ s hk
  · exact ⟨by simp [he], by simp [he], fun _ => ⟨hat, by rw [he]⟩, by simp [he], hconflict, hframe⟩
  · exact ⟨by simp [he], by simp [he], by simp [he], fun _ _ => by rw [he], hconflict, hframe⟩

/-! ## Sense events (R9 to R11) -/

/-- The sense event of a running part, at its moment. -/
theorem exec_senseEvent {s : State} {k : Fin 96} {e : Nat} (hp : s.por = false)
    (he : (s.contactor k.val).debounceExpiry = some e) :
    exec (.senseEvent k) s
      = .next ((s.advanceTo e).thenArbiter (State.debounceExpires k.val)) := by
  simp only [exec, execSenseEvent, he, onExpiry_of_running _ hp]

/-- R3: from scan ready on an unused contactor takes its debounced value alone. -/
theorem debounceExpires_of_unused {s : State} {k : Nat} (hr : s.scanReady = true)
    (hu : (s.contactor k).used = false) :
    s.debounceExpires k = s.modContactor k Contactor.settleRaw := by
  have hu' : ((s.modContactor k Contactor.settleRaw).contactor k).used = false := by
    rw [State.modContactor_contactor]
    split <;> exact hu
  simp only [State.debounceExpires, State.modContactor_scanReady, hr, if_true,
    senseReport_of_unused _ _ hu', State.report]

/-- R9 to R11, R16: from scan ready on the sense event of a used contactor is one change, one fault
and the report behind them. -/
theorem debounceExpires_of_used {s : State} {k : Nat} (hr : s.scanReady = true)
    (hu : (s.contactor k).used = true) (hc : (s.contactor k).CoilFollows) :
    s.debounceExpires k
      = ((s.changeContactor k Contactor.sensed).faulted k
          (faultOfSense (s.contactor k).state (s.contactor k).raw)).report
        (reportOfSense k (s.contactor k).state (s.contactor k).raw) := by
  simp only [State.debounceExpires, State.modContactor_scanReady, hr, if_true,
    senseReport_settled s hu hc]

theorem changed_faulted_engine (s : State) (k : Nat) (f : Contactor → Contactor)
    (kind : Option FaultKind) :
    ((s.changeContactor k f).faulted k kind).engine = s.engine
      ∧ ((s.changeContactor k f).faulted k kind).queue = s.queue := by
  rw [State.faulted_frame, changeContactor_frame]
  exact ⟨rfl, rfl⟩

/-- R16: a sense event makes no report, or none that reaches a job. -/
theorem report_reportOfSense {s : State} {k : Nat} {g : CState} {v : Sense}
    (h : s.untold k ∨ ∀ y, g = .travel y → v ≠ .pos y ∧ v ≠ .both) :
    s.report (reportOfSense k g v) = s := by
  unfold reportOfSense
  split
  · next y x =>
    split
    · next hxy =>
      subst hxy
      rcases h with h | h
      · exact (report_of_untold h).1
      · exact absurd rfl (h x rfl).1
    · rfl
  · next y =>
    rcases h with h | h
    · exact (report_of_untold h).2
    · exact absurd rfl (h y rfl).2
  · rfl

/-- Settles O12: the sense event is one change, one fault and one report (`senseReport_settled`),
and the report is dropped or stands behind the other two. -/
theorem senseEventMovesTheContactor : Obligations.SenseEventMovesTheContactor := by
  intro s k e hp hr hlen he
  have hk : k.val < (s.advanceTo e).contactors.length := by
    rw [State.advanceTo_contactors, hlen]
    exact k.isLt
  rw [exec_senseEvent hp he]
  refine ⟨fun hu => ?_, fun hu hc hdropped => ?_, fun hu hc y hs => ?_⟩
  · have h := debounceExpires_of_unused (s := s.advanceTo e) hr hu
    rw [thenArbiter_of_engine_eq _ _ (by rw [h]; rfl), h]
    rfl
  · have h := debounceExpires_of_used (s := s.advanceTo e) hr hu hc
    obtain ⟨hengine, hqueue⟩ := changed_faulted_engine (s.advanceTo e) k.val Contactor.sensed
      (faultOfSense (s.contactor k.val).state (s.contactor k.val).raw)
    have hreport := report_reportOfSense
      (hdropped.imp_left fun hun => State.untold_congr hun hengine hqueue)
    have h := h.trans hreport
    rw [thenArbiter_of_engine_eq _ _ (by rw [h]; exact hengine), h]
    obtain ⟨hsame, htime, hdraw, hself, hothers, hfaults, hports, hfollow⟩ :=
      (s.advanceTo e).changed_faulted Contactor.sensed
        (faultOfSense (s.contactor k.val).state (s.contactor k.val).raw) hk
    exact ⟨_, rfl, hsame, htime, hdraw, hself, hothers, htime ▸ hfaults, hports, hfollow⟩
  · have h := debounceExpires_of_used (s := s.advanceTo e) hr hu hc
    obtain ⟨hengine, -⟩ := changed_faulted_engine (s.advanceTo e) k.val Contactor.sensed
      (faultOfSense (s.contactor k.val).state (s.contactor k.val).raw)
    intro told
    refine ⟨fun hv => ?_, fun hv => ?_⟩
    · simp only [State.advanceTo_contactor, hs, hv, reportOfSense, if_true, faultOfSense]
        at h hengine
      exact congrArg _ (thenArbiter_congr h hengine)
    · simp only [State.advanceTo_contactor, hs, hv, reportOfSense, faultOfSense] at h hengine
      exact congrArg _ (thenArbiter_congr h hengine)

/-! ## Travel limits (R15) -/

/-- The travel limit of a running part, at its moment. -/
theorem exec_travelLimitExpiry {s : State} {k : Fin 96} {e : Nat} (hp : s.por = false)
    (he : (s.contactor k.val).travelExpiry = some e) :
    exec (.travelLimitExpiry k) s
      = .next ((s.advanceTo e).thenArbiter (State.travelLimitExpires k.val)) := by
  simp only [exec, execTravelLimitExpiry, he, onExpiry_of_running _ hp]

/-- R15, R16: a travel limit of the part at the moment it expires: one change, one fault and a
failure report behind them. The state it leaves is the rule's, or a free value that is drawn (log
entry 5). -/
theorem travelLimitExpires_cases (s : State) {k : Nat} {y : Pos}
    (hs : (s.contactor k).state = .travel y) :
    (∃ v g kind, (s.contactor k).debounced = some v ∧ limitGives y v g kind
      ∧ s.travelLimitExpires k
        = ((s.changeContactor k (Contactor.failedTo g)).faulted k (some kind)).reportFailure k)
    ∨ ((∀ v, (s.contactor k).debounced = some v → ∀ g kind, ¬limitGives y v g kind)
      ∧ ∃ g kind, (g = .at y ∨ g = .stuck ∨ g = .lost ∨ g = .conflict)
        ∧ s.travelLimitExpires k
          = ((({ s with freeDraw := s.freeDraw + 1 }).changeContactor k
              (Contactor.failedTo g)).faulted k kind).reportFailure k) := by
  by_cases h : ∃ v g kind, (s.contactor k).debounced = some v ∧ limitGives y v g kind
  · obtain ⟨v, g, kind, hv, hg⟩ := h
    obtain ⟨cause, hexpires⟩ := travelExpires_of_limitGives s hs hv hg
    refine .inl ⟨v, g, kind, hv, hg, ?_⟩
    simp only [State.travelLimitExpires, hexpires, State.report]
  · have hno : ∀ v, (s.contactor k).debounced = some v → ∀ g kind, ¬limitGives y v g kind :=
      fun v hv g kind hg => h ⟨v, g, kind, hv, hg⟩
    obtain ⟨g, kind, cause, hg, hfree⟩ := travelFailsFree_cases k y s
    refine .inr ⟨hno, g, kind, hg, ?_⟩
    simp only [State.travelLimitExpires, travelExpires_of_no_limit s hs hno, hfree, State.report]

/-- R15: the rule gives one end. -/
theorem limitGives_unique {y : Pos} {v : Sense} {g g' : CState} {kind kind' : FaultKind}
    (h : limitGives y v g kind) (h' : limitGives y v g' kind') : g = g' ∧ kind = kind' := by
  rcases h with ⟨x, rfl, -, rfl, rfl⟩ | ⟨rfl, rfl, rfl⟩
  · rcases h' with ⟨_, _, _, rfl, rfl⟩ | ⟨hv, -⟩
    · exact ⟨rfl, rfl⟩
    · exact nomatch hv
  · rcases h' with ⟨_, hv, -⟩ | ⟨-, rfl, rfl⟩
    · exact nomatch hv
    · exact ⟨rfl, rfl⟩

theorem limitGives_state {y : Pos} {v : Sense} {g : CState} {kind : FaultKind}
    (h : limitGives y v g kind) : g = .at y ∨ g = .stuck ∨ g = .lost ∨ g = .conflict := by
  rcases h with ⟨_, _, _, rfl, _⟩ | ⟨_, rfl, _⟩
  · exact .inr (.inl rfl)
  · exact .inr (.inr (.inl rfl))

/-- A failed travel hands its report on behind the change and its fault (R16, R68). -/
theorem exec_travelLimitExpiry_of_fails {s u : State} {k : Fin 96} {e : Nat} {g : CState}
    {kind : Option FaultKind} (hp : s.por = false)
    (he : (s.contactor k.val).travelExpiry = some e) (hu : u.engine = s.engine)
    (h : (s.advanceTo e).travelLimitExpires k.val
      = ((u.changeContactor k.val (Contactor.failedTo g)).faulted k.val kind).reportFailure k.val) :
    exec (.travelLimitExpiry k) s
      = .next (((u.changeContactor k.val (Contactor.failedTo g)).faulted k.val kind).thenArbiter
          (State.reportFailure k.val)) := by
  rw [exec_travelLimitExpiry hp he,
    thenArbiter_congr h ((changed_faulted_engine u k.val _ kind).1.trans hu)]

/-- The report of a failed travel that no job ordered is dropped, and the arbiter does not run. -/
theorem thenArbiter_reportFailure_of_untold {s : State} {k : Nat} (h : s.untold k) :
    s.thenArbiter (State.reportFailure k) = s := by
  have hreport := (report_of_untold h).2
  rw [thenArbiter_of_engine_eq _ _ (by rw [hreport]), hreport]

/-- Settles O14: the limit is the rule's end of the travel or a free value
(`travelLimitExpires_cases`); both are one change, one fault and a failure report. -/
theorem travelLimitEndsTheTravel : Obligations.TravelLimitEndsTheTravel := by
  intro s k e y hp hlen hs he
  have hk : k.val < (s.advanceTo e).contactors.length := by
    rw [State.advanceTo_contactors, hlen]
    exact k.isLt
  rcases travelLimitExpires_cases (s.advanceTo e) hs with
    ⟨v, g, kind, hv, hg, h⟩ | ⟨hno, g, kind, hg, h⟩
  · have hexec := exec_travelLimitExpiry_of_fails (u := s.advanceTo e) hp he rfl h
    obtain ⟨hengine, hqueue⟩ := changed_faulted_engine (s.advanceTo e) k.val
      (Contactor.failedTo g) (some kind)
    obtain ⟨hsame, htime, hdraw, hself, hothers, hfaults, -, hfollow⟩ :=
      (s.advanceTo e).changed_faulted (Contactor.failedTo g) (some kind) hk
    refine ⟨fun hun => ?_, fun v' g' kind' hv' hg' => ?_, fun hno => absurd hg (hno v hv g kind)⟩
    · rw [thenArbiter_reportFailure_of_untold (State.untold_congr hun hengine hqueue)] at hexec
      refine ⟨_, hexec, hsame, htime, hothers, ⟨g, hself, limitGives_state hg, ?_⟩, hfollow⟩
      intro v' g' kind' hv' hg'
      obtain rfl : v = v' := Option.some.inj (hv.symm.trans hv')
      obtain ⟨rfl, rfl⟩ := limitGives_unique hg hg'
      exact ⟨rfl, hdraw, htime ▸ hfaults⟩
    · obtain rfl : v = v' := Option.some.inj (hv.symm.trans hv')
      obtain ⟨rfl, rfl⟩ := limitGives_unique hg hg'
      exact hexec
  · have hexec := exec_travelLimitExpiry_of_fails
      (u := { s.advanceTo e with freeDraw := s.freeDraw + 1 }) hp he rfl h
    obtain ⟨hengine, hqueue⟩ := changed_faulted_engine
      { s.advanceTo e with freeDraw := s.freeDraw + 1 } k.val (Contactor.failedTo g) kind
    obtain ⟨hsame, htime, hdraw, hself, hothers, -, -, hfollow⟩ :=
      State.changed_faulted { s.advanceTo e with freeDraw := s.freeDraw + 1 }
        (Contactor.failedTo g) kind hk
    refine ⟨fun hun => ?_, fun v g' kind' hv hg' => absurd hg' (hno v hv g' kind'), fun _ => ?_⟩
    · have huntold := State.untold_congr hun hengine hqueue
      refine ⟨_, hexec.trans (congrArg _ (thenArbiter_reportFailure_of_untold huntold)), hsame,
        htime, hothers, ⟨g, hself, hg, ?_⟩, hfollow⟩
      exact fun v g' kind' hv hg' => absurd hg' (hno v hv g' kind')
    · exact ⟨_, hexec, hsame, htime, hdraw, g, hself, hg⟩

end Sys2Proof.Machine
end

section
/-!
Derivation (R18) and scan ready (R7): what the derivation of every entry leaves, by induction over
the contactors in their order, and the statement about the first debounced values.
-/

namespace Sys2Proof.Machine

/-! ## The derivation of one entry -/

/-- Table 1.4: an entry derived from its own debounced value. -/
def Contactor.derived (c : Contactor) : Contactor := c.derive (c.debounced.getD .none)

/-- The derivation of the entries of a list of contactors, in its order. -/
def State.deriveList (ks : List Nat) (s : State) : State := ks.foldl (fun s k => s.derive k) s

theorem State.deriveAll_eq (s : State) : s.deriveAll = s.deriveList (List.range 96) := rfl

theorem State.deriveList_cons (k : Nat) (ks : List Nat) (s : State) :
    s.deriveList (k :: ks) = (s.derive k).deriveList ks := rfl

theorem State.derive_frame (s : State) (k : Nat) :
    s.derive k = { s with
      contactors := s.contactors.modify k Contactor.derived
      permits := (s.derive k).permits, transmitters := (s.derive k).transmitters
      faults := s.faultsAfter s.time (.contactor k) (if (s.contactor k).used then
          faultOfDerivation ((s.contactor k).debounced.getD .none) else none)
      ports := (s.derive k).ports } := by
  have hcontactors : s.contactors.modify k (Contactor.derive ((s.contactor k).debounced.getD .none))
      = s.contactors.modify k Contactor.derived := by
    have h := s.modContactor_congr k (g := Contactor.derived)
      (f := Contactor.derive ((s.contactor k).debounced.getD .none)) fun _ => rfl
    exact congrArg State.contactors h
  rw [derive_eq]
  generalize (if (s.contactor k).used then
    faultOfDerivation ((s.contactor k).debounced.getD .none) else none) = kind
  rw [State.faulted_frame, changeContactor_frame, hcontactors]
  rfl

theorem State.derive_contactor (s : State) (k j : Nat) :
    (s.derive k).contactor j
      = if j = k ∧ k < s.contactors.length then (s.contactor j).derived else s.contactor j := by
  rw [State.derive_frame]
  exact s.modContactor_contactor k j Contactor.derived

/-- An unused contactor is derived without a fault (R18). -/
theorem State.derive_ports_of_unused (s : State) {k : Nat} (h : (s.contactor k).used = false) :
    (s.derive k).faults = s.faults ∧ (s.derive k).ports = s.ports := by
  rw [derive_eq]
  simp only [h, Bool.false_eq_true, if_false, State.faulted]
  rw [changeContactor_frame]
  exact ⟨rfl, rfl⟩

/-- With no station in a slot no derivation recomputes a permit (R20). -/
theorem State.derive_permits_of_none (s : State) (k : Nat)
    (h : ∀ st, (s.station st).state = .none) :
    (s.derive k).permits = s.permits ∧ (s.derive k).transmitters = s.transmitters := by
  rw [derive_eq, State.faulted_frame, s.changeContactor_of_unseen k fun st => by
    rw [s.currentSatisfied_of_none (h st)]
    exact State.currentSatisfied_of_none _ (h st)]
  exact ⟨rfl, rfl⟩

/-! ## The derivation of every entry -/

theorem State.deriveList_frame (ks : List Nat) (s : State) :
    s.deriveList ks = { s with
      contactors := (s.deriveList ks).contactors, permits := (s.deriveList ks).permits
      transmitters := (s.deriveList ks).transmitters, faults := (s.deriveList ks).faults
      ports := (s.deriveList ks).ports } := by
  induction ks generalizing s with
  | nil => rfl
  | cons k ks ih =>
    rw [State.deriveList_cons]
    have h := ih (s.derive k)
    generalize (s.derive k).deriveList ks = t at h ⊢
    rw [State.derive_frame] at h
    exact h

theorem State.deriveList_length (ks : List Nat) (s : State) :
    (s.deriveList ks).contactors.length = s.contactors.length := by
  induction ks generalizing s with
  | nil => rfl
  | cons k ks ih =>
    rw [State.deriveList_cons, ih, State.derive_frame]
    exact s.modContactor_length k Contactor.derived

/-- Each entry is derived in its turn, and the derivation of another leaves it. -/
theorem State.deriveList_contactor (ks : List Nat) (s : State) (hks : ks.Nodup)
    (hlen : ∀ k ∈ ks, k < s.contactors.length) (j : Nat) :
    (s.deriveList ks).contactor j = if j ∈ ks then (s.contactor j).derived else s.contactor j := by
  induction ks generalizing s with
  | nil => rfl
  | cons k ks ih =>
    obtain ⟨hk, hrest⟩ := List.nodup_cons.mp hks
    have hlen' : ∀ i ∈ ks, i < (s.derive k).contactors.length := fun i hi => by
      have hl := s.deriveList_length [k]
      rw [State.deriveList_cons] at hl
      exact hl ▸ hlen i (List.mem_cons_of_mem k hi)
    rw [State.deriveList_cons, ih (s.derive k) hrest hlen', State.derive_contactor]
    have hkl := hlen k List.mem_cons_self
    by_cases hjk : j = k
    · subst hjk
      simp [hk, hkl]
    · simp [hjk]

theorem State.deriveAll_contactors (s : State) (h : s.contactors.length = 96) :
    s.deriveAll.contactors = s.contactors.map Contactor.derived := by
  refine List.ext_getElem (by simp [State.deriveAll_eq, State.deriveList_length]) fun j hj _ => ?_
  have hjs : j < s.contactors.length := by
    rwa [State.deriveAll_eq, State.deriveList_length] at hj
  have hcontactor := State.deriveList_contactor (List.range 96) s List.nodup_range
    (by simp [h]) j
  rw [← State.deriveAll_eq, if_pos (by simpa [h] using hjs), State.contactor_eq_getElem _ hj,
    State.contactor_eq_getElem _ hjs] at hcontactor
  simpa using hcontactor

theorem State.deriveList_ports_of_unused (ks : List Nat) (s : State)
    (h : ∀ k, (s.contactor k).used = false) :
    (s.deriveList ks).faults = s.faults ∧ (s.deriveList ks).ports = s.ports := by
  induction ks generalizing s with
  | nil => exact ⟨rfl, rfl⟩
  | cons k ks ih =>
    obtain ⟨hfaults, hports⟩ := s.derive_ports_of_unused (h k)
    rw [State.deriveList_cons, ← hfaults, ← hports]
    refine ih (s.derive k) fun j => ?_
    rw [State.derive_contactor]
    split <;> exact h j

/-- R18: the one used contactor of a list hands over the one fault of its derivation. -/
theorem State.deriveList_faults_of_one (ks : List Nat) (s : State) (k : Nat) (hks : ks.Nodup)
    (hused : (s.contactor k).used = true)
    (hothers : ∀ j ∈ ks, j ≠ k → (s.contactor j).used = false) :
    (s.deriveList ks).faults = if k ∈ ks then
        s.faultsAfter s.time (.contactor k)
          (faultOfDerivation ((s.contactor k).debounced.getD .none))
      else s.faults := by
  induction ks generalizing s with
  | nil => rfl
  | cons i ks ih =>
    obtain ⟨hi, hrest⟩ := List.nodup_cons.mp hks
    have huses : ∀ j, ((s.derive i).contactor j).used = (s.contactor j).used := fun j => by
      rw [State.derive_contactor]
      split <;> rfl
    have hdebounced : ((s.derive i).contactor k).debounced = (s.contactor k).debounced := by
      rw [State.derive_contactor]
      split <;> rfl
    have htime : (s.derive i).time = s.time := by rw [State.derive_frame]
    rw [State.deriveList_cons, ih (s.derive i) hrest ((huses k).trans hused)
      fun j hj hne => (huses j).trans (hothers j (List.mem_cons_of_mem i hj) hne)]
    by_cases hik : i = k
    · subst hik
      rw [if_neg hi, if_pos List.mem_cons_self, State.derive_frame]
      simp [hused]
    · have hfaults := (s.derive_ports_of_unused (hothers i List.mem_cons_self hik)).1
      simp only [List.mem_cons, Ne.symm hik, false_or, State.faultsAfter, hdebounced, htime,
        hfaults]

theorem State.deriveList_permits_of_none (ks : List Nat) (s : State)
    (h : ∀ st, (s.station st).state = .none) :
    (s.deriveList ks).permits = s.permits ∧ (s.deriveList ks).transmitters = s.transmitters := by
  induction ks generalizing s with
  | nil => exact ⟨rfl, rfl⟩
  | cons k ks ih =>
    obtain ⟨hpermits, hlinks⟩ := s.derive_permits_of_none k h
    rw [State.deriveList_cons, ← hpermits, ← hlinks]
    refine ih (s.derive k) fun st => ?_
    rw [State.derive_frame]
    exact h st

/-! ## Scan ready (R7) -/

/-- R7: a contactor without a first value holds scan ready back. -/
theorem State.checkScanReady_of_missing (s : State) {j : Nat} (hj : j < s.contactors.length)
    (h : (s.contactor j).debounced = none) : s.checkScanReady = s := by
  have hall : s.contactors.all (fun c => c.debounced.isSome) = false := by
    rw [List.all_eq_false]
    exact ⟨s.contactor j, s.contactor_mem hj, by simp [h]⟩
  simp [State.checkScanReady, hall]

/-- R7: the value of the last contactor brings scan ready. -/
theorem State.checkScanReady_of_complete (s : State) (hr : s.scanReady = false)
    (h : ∀ c ∈ s.contactors, c.debounced.isSome = true) :
    s.checkScanReady = { s with scanReady := true, firstValueExpiry := none }.deriveAll := by
  have hall : s.contactors.all (fun c => c.debounced.isSome) = true := List.all_eq_true.mpr h
  simp [State.checkScanReady, hr, hall]

/-- The part at the moment of scan ready, its debounced values taken and its entries not yet
derived. -/
def State.atScanReady (now : Nat) (cs : List Contactor) (s : State) : State :=
  { s with time := now, scanReady := true, firstValueExpiry := none, contactors := cs }

/-- R7: with every debounced value taken the part comes to scan ready and derives every entry. -/
theorem State.checkScanReady_eq_deriveAll {s : State} (hr : s.scanReady = false) {now : Nat}
    {cs : List Contactor} (deadline : Option Nat) (hlen : cs.length = 96) {v : Nat → Sense}
    (hv : ∀ k < 96, ((s.atScanReady now cs).contactor k).debounced = some (v k)) :
    { s with time := now, firstValueExpiry := deadline, contactors := cs }.checkScanReady
      = (s.atScanReady now cs).deriveAll := by
  refine State.checkScanReady_of_complete _ hr ?_
  refine ((s.atScanReady now cs).forall_mem_contactors fun c => c.debounced.isSome = true).mpr ?_
  intro k hk
  rw [hv k (hlen ▸ hk)]
  rfl

theorem State.map_contactor_congr {s t : State}
    (h : t.contactors.map Contactor.map = s.contactors.map Contactor.map) (k : Nat) :
    (t.contactor k).map = (s.contactor k).map := by
  have hget := congrArg (fun ms => ms.getD k (Contactor.reset .none).map) h
  simp only [List.getD_map] at hget
  exact hget

theorem State.used_congr {s t : State}
    (h : t.contactors.map Contactor.map = s.contactors.map Contactor.map) (k : Nat) :
    (t.contactor k).used = (s.contactor k).used := by
  simp only [Contactor.used, State.map_contactor_congr h k]

theorem State.unused_of_forall_mem {s : State} (h : ∀ c ∈ s.contactors, c.used = false) (k : Nat) :
    (s.contactor k).used = false := by
  by_contra hk
  rw [Bool.not_eq_false] at hk
  exact absurd (h _ (s.contactor_mem (State.lt_length_of_used hk))) (by simp [hk])

theorem State.deriveAll_contactor (s : State) (h : s.contactors.length = 96) {k : Nat}
    (hk : k < 96) : s.deriveAll.contactor k = (s.contactor k).derived := by
  rw [State.deriveAll_eq, State.deriveList_contactor _ s List.nodup_range (by simp [h]),
    if_pos (by simpa using hk)]

/-- R18: what scan ready leaves of the part `s`. -/
theorem State.derivedFrom_deriveAll {s : State} {now : Nat} {cs : List Contactor}
    (hlen : cs.length = 96) (hmap : cs.map Contactor.map = s.contactors.map Contactor.map)
    {v : Nat → Sense}
    (hv : ∀ k < 96, ((s.atScanReady now cs).contactor k).debounced = some (v k)) :
    s.derivedFrom (s.atScanReady now cs).deriveAll now v := by
  have hmaps := State.map_contactor_congr (s := s) (t := s.atScanReady now cs) hmap
  have huses := State.used_congr (s := s) (t := s.atScanReady now cs) hmap
  refine ⟨State.deriveList_frame _ _, fun k hk => ?_, fun hunused => ?_,
    fun k hk hused hothers => ?_⟩
  · rw [State.deriveAll_contactor _ hlen hk]
    simp [Contactor.derived, Contactor.derive, Contactor.endTravel, hv k hk, hmaps k]
  · exact State.deriveList_ports_of_unused _ _ fun k =>
      (huses k).trans (State.unused_of_forall_mem hunused k)
  · have h := State.deriveList_faults_of_one (List.range 96) (s.atScanReady now cs) k
      List.nodup_range ((huses k).trans hused)
      (fun j hj hne => (huses j).trans (hothers j (by simpa using hj) hne))
    rw [if_pos (by simpa using hk), hv k hk] at h
    exact h

/-- R20, R40: in CONFIG, where every station is NONE, scan ready leaves the permits. -/
theorem State.deriveAll_permits_of_config {s : State} {now : Nat} {cs : List Contactor}
    (hm : s.mode = .config) (h : s.ConfigSilent) :
    (s.atScanReady now cs).deriveAll.permits = s.permits
      ∧ (s.atScanReady now cs).deriveAll.transmitters = s.transmitters := by
  obtain ⟨-, -, hstations⟩ := h hm
  exact State.deriveList_permits_of_none _ (s.atScanReady now cs) fun st => (hstations st).1

/-! ## The statement -/

/-- Before scan ready a debounce expiry takes the value and looks whether it was the last (R7). -/
theorem exec_senseEvent_before_ready {s : State} {k : Fin 96} {e : Nat} (hp : s.por = false)
    (hr : s.scanReady = false) (he : (s.contactor k.val).debounceExpiry = some e) :
    exec (.senseEvent k) s
      = .next ((s.advanceTo e).modContactor k.val Contactor.settleRaw).checkScanReady := by
  have hexpires : (s.advanceTo e).debounceExpires k.val
      = ((s.advanceTo e).modContactor k.val Contactor.settleRaw).checkScanReady := by
    simp [State.debounceExpires, hr]
  have hengine : ∀ u : State, u.checkScanReady.engine = u.engine := fun u => by
    unfold State.checkScanReady
    split
    · rw [State.deriveAll_eq, State.deriveList_frame]
    · rfl
  rw [exec_senseEvent hp he, thenArbiter_of_engine_eq _ _ (by rw [hexpires, hengine]; rfl),
    hexpires]

theorem exec_firstValueDeadline {s : State} {e : Nat} (hp : s.por = false)
    (he : s.firstValueExpiry = some e) :
    exec .firstValueDeadline s = .next (s.advanceTo e).deadlinePasses := by
  simp only [exec, execFirstValueDeadline, he, onExpiry_of_running _ hp]

theorem Contactor.takeDeadline_debounced (now : Nat) (c : Contactor) :
    (c.takeDeadline now).debounced = some (c.debounced.getD .none) := by
  unfold Contactor.takeDeadline
  cases h : c.debounced <;> simp [h]

theorem Contactor.takeDeadline_map (now : Nat) (c : Contactor) :
    (c.takeDeadline now).map = c.map := by
  unfold Contactor.takeDeadline
  split <;> rfl

/-- Settles O13: the last first value and the deadline both leave every contactor with a debounced
value, and scan ready derives every entry from it. -/
theorem firstValuesBringScanReady : Obligations.FirstValuesBringScanReady := by
  refine ⟨?_, ?_, ?_⟩
  · rintro s k e hp hr he ⟨j, hj, hjk, hnone⟩
    have hmissing : (((s.advanceTo e).modContactor k.val Contactor.settleRaw).contactor j).debounced
        = none := by
      rw [State.modContactor_contactor_of_ne _ _ hjk]
      exact hnone
    rw [exec_senseEvent_before_ready hp hr he,
      State.checkScanReady_of_missing _ (by rwa [State.modContactor_length]) hmissing]
    rfl
  · intro s k e hp hr hlen he hothers
    have hk : k.val < s.contactors.length := by
      rw [hlen]
      exact k.isLt
    have hself := s.modContactor_contactor_same Contactor.settleRaw hk
    have hlen' : (s.modContactor k.val Contactor.settleRaw).contactors.length = 96 :=
      (s.modContactor_length _ _).trans hlen
    have hv : ∀ j < 96, ((s.atScanReady (max s.time e)
        (s.modContactor k.val Contactor.settleRaw).contactors).contactor j).debounced
        = some (if j = k.val then (s.contactor j).raw
            else (s.contactor j).debounced.getD .none) := by
      intro j hj
      change ((s.modContactor k.val Contactor.settleRaw).contactor j).debounced = _
      by_cases hjk : j = k.val
      · rw [if_pos hjk, hjk, hself]
        rfl
      · obtain ⟨w, hw⟩ := Option.ne_none_iff_exists'.mp (hothers j hj hjk)
        simp [hjk, hw]
    have hmap := s.map_contactors_modContactor k.val Contactor.settleRaw Contactor.map rfl
    have hderived := State.deriveAll_contactor (s.atScanReady (max s.time e)
      (s.modContactor k.val Contactor.settleRaw).contactors) hlen' k.isLt
    have hexpiry := congrArg Contactor.debounceExpiry
      (hderived.trans (congrArg Contactor.derived hself))
    exact ⟨_, (exec_senseEvent_before_ready hp hr he).trans (congrArg _
      (State.checkScanReady_eq_deriveAll hr s.firstValueExpiry hlen' hv)),
      State.derivedFrom_deriveAll hlen' hmap hv, hexpiry, State.deriveAll_permits_of_config⟩
  · intro s e hp hr hlen he
    have hlen' : (s.contactors.map (Contactor.takeDeadline (max s.time e))).length = 96 := by
      rw [List.length_map, hlen]
    have hv : ∀ j < 96, ((s.atScanReady (max s.time e)
        (s.contactors.map (Contactor.takeDeadline (max s.time e)))).contactor j).debounced
        = some ((s.contactor j).debounced.getD .none) := by
      intro j hj
      have hjs : j < s.contactors.length := hlen ▸ hj
      rw [State.contactor_eq_getElem _ (hlen'.symm ▸ hj : j < List.length _),
        State.contactor_eq_getElem _ hjs]
      simp [State.atScanReady, Contactor.takeDeadline_debounced]
    have hmap : (s.contactors.map (Contactor.takeDeadline (max s.time e))).map Contactor.map
        = s.contactors.map Contactor.map := by
      simp [Contactor.takeDeadline_map]
    exact ⟨_, (exec_firstValueDeadline hp he).trans (congrArg _
      (State.checkScanReady_eq_deriveAll hr none hlen' hv)),
      State.derivedFrom_deriveAll hlen' hmap hv, State.deriveAll_permits_of_config⟩

end Sys2Proof.Machine
end

section
/-!
SUPPORT. Which operations of the part leave its contactors and scan ready alone. `State.array` is
what a statement about the contactors reads of the part; one lemma for each operation says that
it is as it was, so that what is left to prove about the contactors is about drive starts, sense events,
travel limits, derivation and the map.
-/

namespace Sys2Proof.Machine

/-- The contactors, and whether scan ready has been signalled. -/
def State.array (s : State) : List Contactor × Bool := (s.contactors, s.scanReady)

/-! ## Writes to the other blocks -/

section Writes
variable (s : State) (st : Station)

@[simp] theorem State.array_modStation (f : StationRecord → StationRecord) :
    (s.modStation st f).array = s.array := rfl
@[simp] theorem State.array_modPermit (f : Permit → Permit) :
    (s.modPermit st f).array = s.array := rfl
@[simp] theorem State.array_modPort (f : Port → Port) : (s.modPort st f).array = s.array := rfl
@[simp] theorem State.array_modConf (f : Conformance → Conformance) :
    (s.modConf st f).array = s.array := rfl
@[simp] theorem State.array_modTransmitter (f : TransmitterLink → TransmitterLink) :
    (s.modTransmitter st f).array = s.array := rfl
@[simp] theorem State.array_modRecord (id : Nat) (f : TRecord → TRecord) :
    (s.modRecord id f).array = s.array := rfl
@[simp] theorem State.array_setSlot (n : Fin 4) (p : Option Pattern) :
    (s.setSlot st n p).array = s.array := rfl
@[simp] theorem State.array_advanceTo (t : Nat) : (s.advanceTo t).array = s.array := rfl
@[simp] theorem State.array_notify (n : Notice) : (s.notify st n).array = s.array := rfl
@[simp] theorem State.array_reply (k : CmdKind) (tag : Byte) (code : ResultCode)
    (fields : List Byte) : (s.reply st k tag code fields).array = s.array := rfl
@[simp] theorem State.array_makePermit (output : Nat) :
    (s.makePermit st output).array = s.array := rfl
@[simp] theorem State.array_formTowers (n : Fin 4) : (s.formTowers st n).array = s.array := rfl
@[simp] theorem State.array_emptyTowers : (s.emptyTowers st).array = s.array := rfl
@[simp] theorem State.array_startMonitor : (s.startMonitor st).array = s.array := rfl
@[simp] theorem State.array_stopMonitor : (s.stopMonitor st).array = s.array := rfl

@[simp] theorem State.array_modGranted (f : TRecord → TRecord) :
    (s.modGranted f).array = s.array := by
  unfold State.modGranted
  split <;> rfl

@[simp] theorem State.array_modFlight (f : Flight → Flight) : (s.modFlight f).array = s.array :=
  s.array_modGranted _

@[simp] theorem State.array_setStage (g : Stage) : (s.setStage g).array = s.array :=
  s.array_modGranted _

@[simp] theorem State.array_modDriveJob (f : DriveJob → DriveJob) :
    (s.modDriveJob f).array = s.array := by
  unfold State.modDriveJob
  split <;> rfl

@[simp] theorem State.array_raiseFault (source : FaultSource) (kind : FaultKind) :
    (s.raiseFault source kind).array = s.array := by
  rw [raiseFault_frame]
  rfl

@[simp] theorem State.array_recompute : (s.recompute st).array = s.array := by
  rw [recompute_frame]
  rfl

@[simp] theorem State.array_recomputeAll (sts : List Station) :
    (s.recomputeAll sts).array = s.array := by
  rw [recomputeAll_frame]
  rfl

@[simp] theorem State.array_endRecord (id : Nat) (result : TResult) :
    (s.endRecord id result).array = s.array := by
  rw [endRecord_frame]
  rfl

@[simp] theorem State.array_notifyCollateral (id : Nat) (c : StationSet) (b : Bool) :
    (s.notifyCollateral id c b).array = s.array := by
  rw [notifyCollateral_frame]
  rfl

@[simp] theorem State.array_releaseMute : s.releaseMute.array = s.array := by
  rw [releaseMute_frame]
  rfl

@[simp] theorem State.array_setStation (new : StationState) :
    (s.setStation st new).array = s.array := by
  unfold State.setStation
  dsimp only
  split <;> rfl

@[simp] theorem State.array_seedTowers (g : TowerRecord → Grade) :
    (s.seedTowers st g).array = s.array := by
  unfold State.seedTowers
  dsimp only
  split <;> rfl

/-- A fold of operations that leave the array leaves it. -/
theorem State.array_foldl {α : Type} {f : State → α → State}
    (h : ∀ s x, (f s x).array = s.array) (l : List α) (s : State) :
    (l.foldl f s).array = s.array := by
  induction l generalizing s with
  | nil => rfl
  | cons x l ih => exact (ih (f s x)).trans (h s x)

@[simp] theorem State.array_placeMute (muteSet : StationSet) :
    (s.placeMute muteSet).array = s.array := by
  refine (State.array_foldl (fun s st => ?_) _ _).trans (s.array_modFlight _)
  dsimp only
  split <;> simp

end Writes

/-! ## The engine without its drive starts -/

section Engine
variable (s : State) (st : Station)

@[simp] theorem State.array_startProof (n : Fin 4) : (s.startProof st n).array = s.array :=
  s.array_modFlight _

@[simp] theorem State.array_enterProvingAtOnce : s.enterProvingAtOnce.array = s.array := by
  unfold State.enterProvingAtOnce
  split
  · rfl
  · simp

@[simp] theorem State.array_settleExpires : s.settleExpires.array = s.array := by
  unfold State.settleExpires
  split
  · rfl
  · simp

@[simp] theorem State.array_proofDone : s.proofDone.array = s.array := by
  unfold State.proofDone
  split
  · rfl
  · simp

@[simp] theorem State.array_proofFails : s.proofFails.array = s.array := by
  unfold State.proofFails
  split
  · rfl
  · simp

@[simp] theorem State.array_takeVerdict (passing : Bool) :
    (s.takeVerdict st passing).array = s.array := by
  unfold State.takeVerdict
  split
  · rfl
  · split
    · dsimp only
      split
      · simp
      · simp [apply_ite State.array]
    · rfl

@[simp] theorem State.array_enterSettling : s.enterSettling.array = s.array := by
  unfold State.enterSettling
  split
  · rfl
  · simp [apply_ite State.array]

@[simp] theorem State.array_endAborting : s.endAborting.array = s.array := by
  unfold State.endAborting
  split
  · rfl
  · dsimp only
    split <;> simp

@[simp] theorem State.array_enterAborting (result : TResult) :
    (s.enterAborting result).array = s.array := by
  unfold State.enterAborting
  split
  · rfl
  · dsimp only
    split <;> simp

@[simp] theorem State.array_endMuting (result : TResult) :
    (s.endMuting result).array = s.array := by
  unfold State.endMuting
  split
  · rfl
  · simp

@[simp] theorem State.array_endDriveIfDone : s.endDriveIfDone.array = s.array := by
  unfold State.endDriveIfDone
  split
  · rfl
  · split <;> rfl

@[simp] theorem State.array_closeStarts (cause : CloseCause) :
    (s.closeStarts cause).array = s.array := by
  simp [State.closeStarts]

@[simp] theorem State.array_holdStarts : s.holdStarts.array = s.array := by
  unfold State.holdStarts
  split
  · rfl
  · split
    · rfl
    · split <;> simp
  · simp

@[simp] theorem State.array_holdLimitReached : s.holdLimitReached.array = s.array := by
  unfold State.holdLimitReached
  split
  · rfl
  · split <;> simp

@[simp] theorem State.array_recognise : (s.recognise st).array = s.array := by
  unfold State.recognise
  split
  · split <;> simp
  · rfl

@[simp] theorem State.array_recogniseAll : s.recogniseAll.array = s.array :=
  State.array_foldl State.array_recognise allStations s

@[simp] theorem State.array_endLocal (id : Nat) : (s.endLocal id).array = s.array := by
  unfold State.endLocal
  split
  · rfl
  · split <;> simp

@[simp] theorem State.array_supersede : (s.supersede st).array = s.array := by
  unfold State.supersede
  split <;> simp

@[simp] theorem State.array_enqueue (tag : Byte) (slot : Fin 4) (allow : Byte) (wait : Half) :
    (s.enqueue st tag slot allow wait).array = s.array :=
  s.array_supersede st

end Engine

/-! ## The links and the station units -/

section Units
variable (s : State) (st : Station)

@[simp] theorem State.array_permitZero : s.permitZero.array = s.array :=
  State.array_foldl (fun s st => by split <;> rfl) allStations s

@[simp] theorem State.array_discardRecord (link : Link) :
    (s.discardRecord link).array = s.array := by
  cases link <;> rfl

@[simp] theorem State.array_setCollecting (link : Link) (b : Bool) :
    (s.setCollecting link b).array = s.array := by
  cases link <;> rfl

@[simp] theorem State.array_tickRamp : (s.tickRamp st).array = s.array := rfl

@[simp] theorem State.array_monitorExpires : (s.monitorExpires st).array = s.array := by
  simp [State.monitorExpires]

@[simp] theorem State.array_provingSet (p : Pattern) (ss : List Sample) :
    (s.provingSet st p ss).array = s.array := by
  simp [State.provingSet]

@[simp] theorem State.array_heardMonitor : (s.heardMonitor st).array = s.array := by
  unfold State.heardMonitor
  dsimp only
  split <;> rfl

@[simp] theorem State.array_steadySet (p : Pattern) (ss : List Sample) :
    (s.steadySet st p ss).array = s.array := by
  unfold State.steadySet
  dsimp only
  split <;> split <;> simp

@[simp] theorem State.array_takeSampleSet (ss : List Sample) :
    (s.takeSampleSet st ss).array = s.array := by
  unfold State.takeSampleSet
  split
  · rfl
  · split
    · rfl
    · split
      · split <;> simp
      · rfl

@[simp] theorem State.array_monitorRecord (body : List Byte) :
    (s.monitorRecord body).array = s.array := by
  unfold State.monitorRecord
  split <;> simp

end Units

/-! ## The commands of the station ports that drive nothing -/

section Commands
variable (s : State) (p : Station) (tag : Byte)

theorem State.array_setPresence (present : Bool) : (s.setPresence present).array = s.array := by
  unfold State.setPresence
  split
  · rfl
  · split
    · simp [State.makePresent]
    · rfl

theorem State.array_loadSite (cPresent strokeWidth : Byte) (holdLimit : Half) (muteTimeout : Byte) :
    (s.loadSite p tag cPresent strokeWidth holdLimit muteTimeout).array = s.array := by
  unfold State.loadSite
  split
  · rfl
  · split
    · exact (State.array_setPresence _ _)
    · rfl

theorem State.array_loadStation (station coldThreshold : Byte)
    (coldDwell reportTimeout rampStep : Half) (monitorTimeout escalate deescalate : Byte) :
    (s.loadStation p tag station coldThreshold coldDwell reportTimeout rampStep monitorTimeout
      escalate deescalate).array = s.array := by
  unfold State.loadStation
  split
  · rfl
  · split <;> rfl

theorem State.array_loadPattern (n : Byte) (towers : List RawTower) (hdr : RawHeader) (st : Station)
    (slot : Fin 4) : (s.loadPattern p tag n towers hdr st slot).array = s.array := by
  unfold State.loadPattern
  split <;> rfl

theorem State.array_loadPositions (banks : Half) (positions : List Byte) (st : Station)
    (slot : Fin 4) : (s.loadPositions p tag banks positions st slot).array = s.array := by
  unfold State.loadPositions
  split
  · rfl
  · split
    · rfl
    · split <;> rfl

theorem State.array_clearSlot (st : Station) (slot : Fin 4) :
    (s.clearSlot p tag st slot).array = s.array := by
  unfold State.clearSlot
  split <;> rfl

theorem State.array_limit (value : Half) : (s.limit p tag value).array = s.array :=
  State.array_recompute _ p

theorem State.array_sync : (s.sync p tag).array = s.array := by
  unfold State.sync
  split <;> rfl

theorem State.array_status : (s.status p tag).array = s.array := rfl

theorem State.array_readPattern (st : Station) (n : Fin 4) :
    (s.readPattern p tag st n).array = s.array := rfl

theorem State.array_readQueue : (s.readQueue p tag).array = s.array := rfl

theorem State.array_readFaults : (s.readFaults p tag).array = s.array := rfl

theorem State.array_readContactors (first count : Byte) :
    (s.readContactors p tag first count).array = s.array := by
  unfold State.readContactors
  split <;> rfl

theorem State.array_readTowers (station : Byte) : (s.readTowers p tag station).array = s.array := by
  unfold State.readTowers
  split <;> rfl

theorem State.array_readClipLog (station : Byte) :
    (s.readClipLog p tag station).array = s.array := by
  unfold State.readClipLog
  split <;> rfl

theorem State.array_clearClipLog (mask : Half) : (s.clearClipLog p tag mask).array = s.array := by
  unfold State.clearClipLog
  split
  · rfl
  · split
    · rfl
    · split <;> rfl

theorem State.array_clearFault (index : Byte) : (s.clearFault p tag index).array = s.array := by
  unfold State.clearFault
  split
  · rfl
  · split
    · split <;> rfl
    · split
      · rfl
      · split <;> rfl

theorem State.array_resume : (s.resume p tag).array = s.array := by
  unfold State.resume
  split <;> rfl

theorem State.array_reclaim : (s.reclaim p tag).array = s.array := by
  unfold State.reclaim
  split
  · split <;> rfl
  · rfl
  · rfl

end Commands

end Sys2Proof.Machine
end

section
/-!
SUPPORT. Properties that operations keep. The ways in which a command reaches its effect (a station
port, an expiry, a link, the arbiter behind it) keep whatever their parts keep; said here once, for
any property that no write to a station port breaks.
-/

namespace Sys2Proof.Machine

/-- The operation keeps the property. -/
def Keeps (P : State → Prop) (f : State → State) : Prop := ∀ s, P s → P (f s)

section Wrappers
variable {P : State → Prop}

/-! ## Expiries, links and the arbiter -/

theorem Keeps.onExpiry (htime : ∀ t, Keeps P (State.advanceTo t)) {f : State → State}
    (hf : Keeps P f) (expiry : Option Nat) : Keeps P (State.onExpiry expiry f) := by
  intro s h
  unfold State.onExpiry
  split
  · exact h
  · split
    · exact h
    · exact hf _ (htime _ s h)

theorem Keeps.running {f : State → State} (hf : Keeps P f) : Keeps P (State.running f) := by
  intro s h
  unfold State.running
  split
  · exact h
  · exact hf s h

theorem Keeps.received {link : Link} (hset : Keeps P (State.setCollecting link false))
    (hdiscard : Keeps P (State.discardRecord link)) (body : List Byte) {f : State → State}
    (hf : Keeps P f) : Keeps P (State.received link body f) := by
  intro s h
  unfold State.received
  split
  · exact hf _ (hset s h)
  · exact hdiscard s h

theorem Keeps.thenArbiter (harbiter : Keeps P State.arbiter) {f : State → State} (hf : Keeps P f) :
    Keeps P (State.thenArbiter f) := by
  intro s h
  unfold State.thenArbiter
  dsimp only
  split
  · exact harbiter _ (hf s h)
  · exact hf s h

/-! ## Commands of a station port -/

variable (hport : ∀ p g, Keeps P (State.modPort p g))
include hport

theorem Keeps.reply (p : Station) (k : CmdKind) (tag : Byte) (code : ResultCode)
    (fields : List Byte) : Keeps P (State.reply p k tag code fields) := hport p _

theorem Keeps.queueRecord (p : Station) (body : List Byte) :
    Keeps P (State.queueRecord p body) := by
  intro s h
  unfold State.queueRecord
  split
  · exact hport p _ s h
  · exact hport p _ s h

theorem Keeps.illegalEffect (p : Station) (body : List Byte) :
    Keeps P (State.illegalEffect p body) := fun s h => hport p _ _ (hport p _ s h)

theorem Keeps.submit (p : Station) (body : List Byte) {effect : State → State}
    (heffect : Keeps P effect) : Keeps P (State.submit p body effect) := by
  intro s h
  unfold State.submit
  split
  · exact h
  · split
    · exact heffect _ (hport p _ s h)
    · exact Keeps.queueRecord hport p body s h

theorem Keeps.gate (p : Station) (k : CmdKind) (tag : Byte) {own : State → State}
    (hown : Keeps P own) : Keeps P (State.gate p k tag own) := by
  intro s h
  unfold State.gate
  split
  · exact hown s h
  · split
    · exact hown s h
    · exact Keeps.reply hport p k tag _ _ s h
  · split
    · exact Keeps.reply hport p k tag _ _ s h
    · exact hown s h

theorem Keeps.command (p : Station) (k : CmdKind) (tag : Byte) (i : Instr) {own : State → State}
    (hown : Keeps P own) : Keeps P (State.command p k tag i own) :=
  Keeps.submit hport p _ (Keeps.gate hport p k tag hown)

theorem Keeps.countedCommand (p : Station) (k : CmdKind) (tag : Byte) (i : Instr) (ok : Bool)
    {own : State → State} (hown : Keeps P own) :
    Keeps P (State.countedCommand p k tag i ok own) := by
  intro s h
  unfold State.countedCommand
  split
  · exact Keeps.command hport p k tag i hown s h
  · exact Keeps.submit hport p _ (Keeps.illegalEffect hport p _) s h

theorem Keeps.inConfig (p : Station) (k : CmdKind) (tag : Byte) {own : State → State}
    (hown : Keeps P own) : Keeps P (State.inConfig p k tag own) := by
  intro s h
  unfold State.inConfig
  split
  · exact Keeps.reply hport p k tag _ _ s h
  · exact hown s h

theorem Keeps.inRun (p : Station) (k : CmdKind) (tag : Byte) {own : State → State}
    (hown : Keeps P own) : Keeps P (State.inRun p k tag own) := by
  intro s h
  unfold State.inRun
  split
  · exact Keeps.reply hport p k tag _ _ s h
  · split
    · exact Keeps.reply hport p k tag _ _ s h
    · split
      · exact Keeps.reply hport p k tag _ _ s h
      · exact hown s h

theorem Keeps.withSlot (p : Station) (k : CmdKind) (tag station slot : Byte) (bad : List Byte)
    {own : Station → Fin 4 → State → State} (hown : ∀ st n, Keeps P (own st n)) :
    Keeps P (State.withSlot p k tag station slot bad own) := by
  intro s h
  unfold State.withSlot
  split
  · exact hown _ _ s h
  · exact Keeps.reply hport p k tag _ _ s h

end Wrappers

end Sys2Proof.Machine
end

section
/-!
The statement that every step keeps the coils with their contactors (R13), by cases on the command:
an operation that leaves `State.array` keeps it at once; a drive start, a sense event, a travel
limit, a derivation and a map entry each write one contactor, in a way that keeps its coil with its
state.
-/

namespace Sys2Proof.Machine

/-! ## One contactor -/

/-- R13, R18: a contactor whose coil follows its state, held in LOST until scan ready. -/
def Contactor.Follows (ready : Bool) (c : Contactor) : Prop :=
  c.CoilFollows ∧ (ready = false → c.state = .lost ∧ c.commanded = .a)

theorem Contactor.CoilFollows.follows {c : Contactor} (h : c.CoilFollows) : c.Follows true :=
  ⟨h, nofun⟩

/-- R14: a contactor that begins a travel. -/
theorem Contactor.beginTravel_coilFollows (now : Nat) (y : Pos) (c : Contactor) :
    (c.beginTravel now y).CoilFollows := ⟨rfl, rfl, rfl, rfl⟩

/-- R18: a derived contactor. -/
theorem Contactor.derived_coilFollows (c : Contactor) : c.derived.CoilFollows := by
  unfold Contactor.derived
  cases c.debounced.getD .none with
  | pos x => exact ⟨rfl, rfl, rfl, rfl⟩
  | none | both => exact ⟨rfl, rfl, rfl⟩

/-- R9 to R11: a contactor after a sense event. -/
theorem Contactor.CoilFollows.sensed {c : Contactor} (h : c.CoilFollows) :
    c.sensed.CoilFollows := by
  match hs : stateAfterSense c.state c.raw with
  | .travel y =>
    obtain ⟨-, hcommanded, hstart, hlimit⟩ := h.travelling (stateAfterSense_eq_travel hs)
    simp [Contactor.CoilFollows, Contactor.sensed, hs, hcommanded, hstart, hlimit]
  | .at _ | .stuck | .lost | .conflict =>
    simp [Contactor.CoilFollows, Contactor.sensed, hs]

/-- R15: a contactor after its travel limit. -/
theorem Contactor.CoilFollows.failedTo {c : Contactor} (h : c.CoilFollows) {y : Pos}
    (hs : c.state = .travel y) {g : CState}
    (hg : g = .at y ∨ g = .stuck ∨ g = .lost ∨ g = .conflict) : (c.failedTo g).CoilFollows := by
  obtain ⟨-, hcommanded, -, -⟩ := h.travelling hs
  rcases hg with rfl | rfl | rfl | rfl
  · exact ⟨rfl, hcommanded, rfl, rfl⟩
  all_goals exact ⟨rfl, rfl, rfl⟩

/-- R42: a contactor at rest whose coil a RESTART releases. -/
theorem Contactor.Follows.endTravel {c : Contactor} (h : c.Follows false) :
    c.endTravel.Follows false := by
  obtain ⟨hlost, hcommanded⟩ := h.2 rfl
  refine ⟨?_, fun _ => ⟨hlost, hcommanded⟩⟩
  simp [Contactor.CoilFollows, Contactor.endTravel, hlost]

/-! ## The array -/

theorem State.coilsFollow_iff (s : State) :
    s.CoilsFollow ↔ s.contactors.length = 96 ∧ ∀ c ∈ s.contactors, c.Follows s.scanReady := Iff.rfl

theorem State.CoilsFollow.of_array {s t : State} (h : s.CoilsFollow) (he : t.array = s.array) :
    t.CoilsFollow := by
  obtain ⟨hcontactors, hready⟩ := Prod.mk.inj he
  rw [State.coilsFollow_iff] at h ⊢
  rw [hcontactors, hready]
  exact h

/-- An operation that leaves the array keeps the coils with their contactors. -/
theorem coilsFollow_of_array {f : State → State} (hf : ∀ s, (f s).array = s.array) :
    Keeps State.CoilsFollow f := fun s h => h.of_array (hf s)

theorem State.CoilsFollow.contactor {s : State} (h : s.CoilsFollow) (k : Nat) :
    (s.contactor k).Follows s.scanReady := by
  by_cases hk : k < s.contactors.length
  · exact h.2 _ (s.contactor_mem hk)
  · rw [s.contactor_of_length_le (Nat.le_of_not_lt hk)]
    exact ⟨⟨rfl, rfl, rfl⟩, fun _ => ⟨rfl, rfl⟩⟩

/-- A contactor travels from scan ready on alone (R18). -/
theorem State.CoilsFollow.ready_of_not_lost {s : State} (h : s.CoilsFollow) {k : Nat}
    (hs : (s.contactor k).state ≠ .lost) : s.scanReady = true := by
  by_contra hr
  exact hs ((h.contactor k).2 (Bool.not_eq_true _ ▸ hr)).1

theorem State.CoilsFollow.modContactor {s : State} (h : s.CoilsFollow) (k : Nat)
    {f : Contactor → Contactor} (hf : (f (s.contactor k)).Follows s.scanReady) :
    (s.modContactor k f).CoilsFollow :=
  ⟨(s.modContactor_length k f).trans h.1, s.modContactor_forall_mem k f h.2 fun _ => hf⟩

theorem State.array_changeContactor (s : State) (k : Nat) (f : Contactor → Contactor) :
    (s.changeContactor k f).array = (s.modContactor k f).array :=
  State.array_recomputeAll _ _

theorem State.array_faulted (s : State) (k : Nat) (kind : Option FaultKind) :
    (s.faulted k kind).array = s.array := by
  rw [State.faulted_frame]
  rfl

/-- A change of one contactor, with its fault. -/
theorem State.CoilsFollow.changed {s : State} (h : s.CoilsFollow) (k : Nat)
    {f : Contactor → Contactor} (hf : (f (s.contactor k)).Follows s.scanReady)
    (kind : Option FaultKind) : ((s.changeContactor k f).faulted k kind).CoilsFollow :=
  (h.modContactor k hf).of_array
    ((State.array_faulted _ k kind).trans (s.array_changeContactor k f))

/-! ## Drive starts (R14) -/

theorem coilsFollow_driveStart (k : Nat) (y : Pos) :
    Keeps State.CoilsFollow (fun s => (s.driveStart k y).2) := by
  intro s h
  dsimp only
  rcases driveStart_cases k y s with he | ⟨he, -, hready, -⟩ | ⟨he, hat⟩ | ⟨c, he⟩
  · rwa [he]
  · rw [he]
    refine h.changed k ?_ none
    rw [hready]
    exact (Contactor.beginTravel_coilFollows _ _ _).follows
  · rw [he]
    have hready := h.ready_of_not_lost (k := k) (by simp [hat])
    have hc := (h.contactor k).1
    have hcommanded := hc.commanded_of_at hat
    refine h.modContactor k ?_
    rw [hready]
    subst hcommanded
    exact hc.follows
  · rwa [he]

theorem coilsFollow_orderStarts (fuel : Nat) :
    Keeps State.CoilsFollow (State.orderStarts fuel) := by
  induction fuel with
  | zero => exact fun s h => h
  | succ fuel ih =>
    intro s h
    unfold State.orderStarts
    split
    · exact h
    · split
      · split
        · exact h
        · next m _ =>
          have hd := coilsFollow_driveStart m.contactor m.target s h
          dsimp only at hd
          generalize s.driveStart m.contactor m.target = answered at hd ⊢
          obtain ⟨answer, u⟩ := answered
          cases answer with
          | started => exact ih _ (hd.of_array (by simp))
          | withheld => exact hd
          | arrived =>
            dsimp only
            split
            · exact hd.of_array (by simp)
            · exact ih _ (hd.of_array (by simp))
          | failed cause => exact hd.of_array (by simp)
      · exact h

theorem coilsFollow_startMoves : Keeps State.CoilsFollow State.startMoves :=
  coilsFollow_orderStarts _

theorem coilsFollow_enterMoving : Keeps State.CoilsFollow State.enterMoving :=
  fun _ h => coilsFollow_startMoves _ (h.of_array (by simp))

theorem coilsFollow_examineCold : Keeps State.CoilsFollow State.examineCold := by
  intro s h
  unfold State.examineCold
  split
  · exact h
  · split
    · exact coilsFollow_enterMoving s h
    · exact h

theorem coilsFollow_enterMuting : Keeps State.CoilsFollow State.enterMuting := by
  intro s h
  unfold State.enterMuting
  split
  · exact h
  · exact coilsFollow_examineCold _ (h.of_array (by simp))

theorem coilsFollow_orderDrive (fuel : Nat) : Keeps State.CoilsFollow (State.orderDrive fuel) := by
  induction fuel with
  | zero => exact fun s h => h
  | succ fuel ih =>
    intro s h
    unfold State.orderDrive
    split
    · exact h
    · split
      · split
        · exact h
        · next m _ =>
          have hd := coilsFollow_driveStart m.contactor m.target s h
          dsimp only at hd
          generalize s.driveStart m.contactor m.target = answered at hd ⊢
          obtain ⟨answer, u⟩ := answered
          cases answer with
          | withheld => exact hd
          | started | arrived | failed => exact ih _ (hd.of_array (by simp))
      · exact h

theorem coilsFollow_stepDrive : Keeps State.CoilsFollow State.stepDrive :=
  fun s h => (coilsFollow_orderDrive _ s h).of_array (State.array_endDriveIfDone _)

/-! ## What reaches the job (R16, R86, R87, R130, R81) -/

theorem coilsFollow_reportArrival (k : Nat) : Keeps State.CoilsFollow (State.reportArrival k) := by
  intro s h
  unfold State.reportArrival
  split
  · exact h
  · split
    · exact h
    · split
      · dsimp only
        split
        · split
          · exact h.of_array (by simp)
          · exact coilsFollow_startMoves _ (h.of_array (by simp))
        · split <;> exact h.of_array (by simp)
        · exact h.of_array (by simp)
      · exact h
  · split
    · exact coilsFollow_stepDrive _ (h.of_array (by simp))
    · exact h

theorem coilsFollow_reportFailure (k : Nat) : Keeps State.CoilsFollow (State.reportFailure k) := by
  intro s h
  unfold State.reportFailure
  split
  · exact h
  · split
    · exact h
    · split
      · dsimp only
        split
        · exact h.of_array (by simp)
        · split <;> exact h.of_array (by simp)
        · exact h.of_array (by simp)
      · exact h
  · split
    · exact coilsFollow_stepDrive _ (h.of_array (by simp))
    · exact h

theorem coilsFollow_report (r : Option Report) : Keeps State.CoilsFollow (State.report r) := by
  intro s h
  unfold State.report
  split
  · exact h
  · exact coilsFollow_reportArrival _ s h
  · exact coilsFollow_reportFailure _ s h

theorem coilsFollow_coldChanged (st : Station) :
    Keeps State.CoilsFollow (State.coldChanged st) := by
  intro s h
  unfold State.coldChanged
  split
  · exact h
  · split
    · exact h
    · split
      · split
        · exact coilsFollow_examineCold s h
        · exact coilsFollow_startMoves _ (h.of_array (by simp))
        · exact h
      · exact h
  · exact coilsFollow_stepDrive _ (h.of_array (by simp))

theorem coilsFollow_holdStops : Keeps State.CoilsFollow State.holdStops := by
  intro s h
  unfold State.holdStops
  split
  · exact h
  · split
    · exact h
    · split
      · exact coilsFollow_startMoves _ (h.of_array (by simp))
      · exact h
  · exact coilsFollow_stepDrive _ (h.of_array (by simp))

theorem coilsFollow_setCold (st : Station) (c : Cold) (dwell : Option Nat) :
    Keeps State.CoilsFollow (State.setCold st c dwell) := by
  intro s h
  unfold State.setCold
  dsimp only
  split
  · exact h.of_array (by simp)
  · exact coilsFollow_coldChanged st _ (h.of_array (by simp))

theorem coilsFollow_coldReading (st : Station) :
    Keeps State.CoilsFollow (State.coldReading st) := by
  intro s h
  unfold State.coldReading
  split <;> exact coilsFollow_setCold st _ _ s h

theorem coilsFollow_applyReading (st : Station) (power : Nat) :
    Keeps State.CoilsFollow (State.applyReading st power) := by
  intro s h
  unfold State.applyReading
  split
  · exact coilsFollow_setCold st _ _ s h
  · split
    · exact coilsFollow_coldReading st s h
    · exact coilsFollow_coldReading st s h
    · exact h
    · exact h

theorem coilsFollow_transmitterRecord (st : Station) (body : List Byte) :
    Keeps State.CoilsFollow (State.transmitterRecord st body) := by
  intro s h
  unfold State.transmitterRecord
  split
  · unfold State.takePowerReport
    split
    · exact coilsFollow_applyReading st _ _ (h.of_array (by simp))
    · exact h
  · exact h.of_array (by simp)

theorem coilsFollow_reportExpires (st : Station) :
    Keeps State.CoilsFollow (State.reportExpires st) := fun s h =>
  (coilsFollow_setCold st .unknown none _ (h.of_array (s.array_modPermit st _))).of_array
    (State.array_raiseFault _ _ _)

/-! ## The arbiter (R68 to R72) -/

theorem coilsFollow_grant (id : Nat) (moves : List Move) (muteSet collateral : StationSet) :
    Keeps State.CoilsFollow (State.grant id moves muteSet collateral) := by
  intro s h
  unfold State.grant
  dsimp only
  split
  · exact h.of_array (State.array_enterProvingAtOnce _)
  · exact coilsFollow_enterMuting _ (h.of_array rfl)

theorem coilsFollow_examine (id : Nat) : Keeps State.CoilsFollow (fun s => (s.examine id).1) := by
  intro s h
  dsimp only
  unfold State.examine
  split
  · exact h
  · split
    · split
      · exact h.of_array (by simp)
      · exact h.of_array (by simp)
      · exact coilsFollow_grant _ _ _ _ s h
    · exact h

theorem coilsFollow_examineFrom (ids : List Nat) :
    Keeps State.CoilsFollow (fun s => (examineFrom ids s).1) := by
  induction ids with
  | nil => exact fun s h => h
  | cons id ids ih =>
    intro s h
    have hexamined := coilsFollow_examine id s h
    dsimp only at hexamined ⊢
    unfold examineFrom
    generalize s.examine id = examined at hexamined ⊢
    obtain ⟨u, granted⟩ := examined
    cases granted with
    | true => exact hexamined
    | false => exact ih u hexamined

theorem coilsFollow_arbiterRuns (fuel : Nat) :
    Keeps State.CoilsFollow (State.arbiterRuns fuel) := by
  induction fuel with
  | zero => exact fun s h => h
  | succ fuel ih =>
    intro s h
    unfold State.arbiterRuns
    split
    · have hrun := coilsFollow_examineFrom s.queuedIds s h
      dsimp only at hrun
      generalize examineFrom s.queuedIds s = run at hrun ⊢
      obtain ⟨u, granted⟩ := run
      cases granted with
      | true => exact ih u hrun
      | false => exact hrun
    · exact h

theorem coilsFollow_arbiter : Keeps State.CoilsFollow State.arbiter :=
  fun s => coilsFollow_arbiterRuns (s.queue.length + 1) s

theorem coilsFollow_thenArbiter {f : State → State} (hf : Keeps State.CoilsFollow f) :
    Keeps State.CoilsFollow (State.thenArbiter f) := Keeps.thenArbiter coilsFollow_arbiter hf

/-! ## Derivation and scan ready (R18, R7) -/

/-- R18: the derivation of every entry sets each coil with its state, whatever stood there
before. -/
theorem State.coilsFollow_deriveAll {s : State} (hlen : s.contactors.length = 96)
    (hready : s.scanReady = true) : s.deriveAll.CoilsFollow := by
  have hready' : s.deriveAll.scanReady = true := by
    rw [State.deriveAll_eq, State.deriveList_frame]
    exact hready
  rw [State.coilsFollow_iff, hready', State.deriveAll_contactors s hlen, List.length_map]
  refine ⟨hlen, fun c hc => ?_⟩
  obtain ⟨d, -, rfl⟩ := List.mem_map.mp hc
  exact d.derived_coilFollows.follows

theorem coilsFollow_checkScanReady : Keeps State.CoilsFollow State.checkScanReady := by
  intro s h
  unfold State.checkScanReady
  split
  · exact State.coilsFollow_deriveAll h.1 rfl
  · exact h

theorem coilsFollow_deadlinePasses : Keeps State.CoilsFollow State.deadlinePasses := by
  intro s h
  refine coilsFollow_checkScanReady _ ?_
  rw [State.coilsFollow_iff, List.length_map]
  refine ⟨h.1, fun c hc => ?_⟩
  obtain ⟨d, hd, rfl⟩ := List.mem_map.mp hc
  have hfollows := h.2 d hd
  unfold Contactor.takeDeadline
  split
  · exact hfollows
  · exact hfollows

theorem coilsFollow_derive (k : Nat) (s : State) (h : s.CoilsFollow) (hready : s.scanReady = true) :
    (s.derive k).CoilsFollow := by
  have harray : (s.derive k).array = (s.modContactor k Contactor.derived).array := by
    rw [State.derive_frame]
    rfl
  refine (h.modContactor k ?_).of_array harray
  rw [hready]
  exact (s.contactor k).derived_coilFollows.follows

/-! ## Sense events and travel limits (R6, R9 to R11, R15) -/

theorem coilsFollow_debounceExpires (k : Nat) :
    Keeps State.CoilsFollow (State.debounceExpires k) := by
  intro s h
  have hc := h.contactor k
  have hsettled := h.modContactor k (f := Contactor.settleRaw) hc
  cases hr : s.scanReady with
  | false =>
    have he : s.debounceExpires k = (s.modContactor k Contactor.settleRaw).checkScanReady := by
      simp [State.debounceExpires, hr]
    rw [he]
    exact coilsFollow_checkScanReady _ hsettled
  | true =>
    cases hu : (s.contactor k).used with
    | false =>
      rw [debounceExpires_of_unused hr hu]
      exact hsettled
    | true =>
      rw [debounceExpires_of_used hr hu hc.1]
      refine coilsFollow_report _ _ (h.changed k ?_ _)
      rw [hr]
      exact hc.1.sensed.follows

theorem coilsFollow_travelLimitExpires (k : Nat) :
    Keeps State.CoilsFollow (State.travelLimitExpires k) := by
  intro s h
  match hs : (s.contactor k).state with
  | .travel y =>
    have hready := h.ready_of_not_lost (k := k) (by simp [hs])
    have hfailed : ∀ g, (g = .at y ∨ g = .stuck ∨ g = .lost ∨ g = .conflict) →
        ((s.contactor k).failedTo g).Follows s.scanReady := fun g hg => by
      rw [hready]
      exact ((h.contactor k).1.failedTo hs hg).follows
    rcases travelLimitExpires_cases s hs with ⟨v, g, kind, -, hg, he⟩ | ⟨-, g, kind, hg, he⟩
    · rw [he]
      exact coilsFollow_reportFailure k _ (h.changed k (hfailed g (limitGives_state hg)) _)
    · rw [he]
      have hdrawn : State.CoilsFollow { s with freeDraw := s.freeDraw + 1 } := h
      exact coilsFollow_reportFailure k _ (hdrawn.changed k (hfailed g hg) _)
  | .at _ | .stuck | .lost | .conflict =>
    have he : s.travelLimitExpires k = s := by
      simp [State.travelLimitExpires, State.travelExpires, hs, State.report]
    rwa [he]

/-! ## The lines (R41, R42, R159) -/

theorem coilsFollow_held : Keeps State.CoilsFollow State.held := by
  intro s h
  rw [State.coilsFollow_iff]
  refine ⟨(List.length_map ..).trans h.1, fun c hc => ?_⟩
  obtain ⟨d, -, rfl⟩ := List.mem_map.mp hc
  exact ⟨⟨rfl, rfl, rfl⟩, fun _ => ⟨rfl, rfl⟩⟩

theorem coilsFollow_powerUp (high : Bool) : Keeps State.CoilsFollow (State.powerUp high) := by
  intro s h
  have hheld := coilsFollow_held s h
  unfold State.powerUp
  refine State.CoilsFollow.of_array ?_
    ((State.array_recomputeAll _ _).trans (State.array_permitZero _))
  rw [State.coilsFollow_iff]
  refine ⟨(List.length_map ..).trans hheld.1, fun c hc => ?_⟩
  obtain ⟨d, hd, rfl⟩ := List.mem_map.mp hc
  exact hheld.2 d hd

/-- R42: the coils are released and, from scan ready on, every entry is derived. -/
theorem coilsFollow_restarted : Keeps State.CoilsFollow State.restarted := by
  intro s h
  have harray : s.restartBlocks.array = (s.contactors.map Contactor.endTravel, s.scanReady) :=
    State.array_permitZero _
  obtain ⟨hcontactors, hready⟩ := Prod.mk.inj harray
  have hlen : s.restartBlocks.contactors.length = 96 := by
    rw [hcontactors, List.length_map]
    exact h.1
  have hderived : (if s.restartBlocks.scanReady then s.restartBlocks.deriveAll
      else s.restartBlocks).CoilsFollow := by
    split
    · next hr => exact State.coilsFollow_deriveAll hlen hr
    · next hr =>
      rw [Bool.not_eq_true] at hr
      rw [State.coilsFollow_iff, hr]
      refine ⟨hlen, fun c hc => ?_⟩
      rw [hcontactors] at hc
      obtain ⟨d, hd, rfl⟩ := List.mem_map.mp hc
      have hfollows := h.2 d hd
      rw [← hready, hr] at hfollows
      exact Contactor.Follows.endTravel hfollows
  unfold State.restarted
  dsimp only
  generalize (if s.restartBlocks.scanReady then s.restartBlocks.deriveAll
    else s.restartBlocks) = u at hderived ⊢
  refine hderived.of_array ((State.array_recomputeAll _ _).trans ?_)
  split
  · exact State.array_recogniseAll _
  · rfl

theorem coilsFollow_enterLocal (st : Station) : Keeps State.CoilsFollow (State.enterLocal st) := by
  intro s h
  have hended : Keeps State.CoilsFollow (State.endLocalRecords st) := fun s =>
    coilsFollow_thenArbiter
      (coilsFollow_of_array fun u => State.array_foldl State.array_endLocal _ u) s
  unfold State.enterLocal
  dsimp only
  split
  · exact (hended _ (h.of_array (s.array_modPort st _))).of_array rfl
  · exact h.of_array rfl

/-! ## The commands that reach the contactors -/

theorem coilsFollow_applyMap (k : Nat) (ms : List MapEntry) :
    Keeps State.CoilsFollow (State.applyMap k ms) := by
  induction ms generalizing k with
  | nil => exact fun s h => h
  | cons m ms ih =>
    intro s h
    refine ih (k + 1) _ ?_
    have hmapped := h.modContactor k (f := fun c => { c with map := m }) (h.contactor k)
    unfold State.applyMapEntry
    dsimp only
    split
    · next hready =>
      simp only [Bool.and_eq_true] at hready
      exact coilsFollow_derive k _ hmapped hready.2
    · exact hmapped

theorem coilsFollow_loadMap (p : Station) (tag first count : Byte) (entries : List RawMapEntry) :
    Keeps State.CoilsFollow (State.loadMap p tag first count entries) := by
  intro s h
  unfold State.loadMap
  split
  · exact h.of_array rfl
  · split
    · exact h.of_array rfl
    · split
      · exact h.of_array rfl
      · exact (coilsFollow_applyMap _ _ s h).of_array rfl

theorem coilsFollow_drive (p : Station) (tag : Byte) (banks : Half) (positions : List Byte) :
    Keeps State.CoilsFollow (State.drive p tag banks positions) := by
  intro s h
  unfold State.drive
  split
  · exact h.of_array rfl
  · split
    · exact h.of_array rfl
    · split
      · exact h.of_array rfl
      · split
        · exact h.of_array rfl
        · exact coilsFollow_stepDrive _ (h.of_array rfl)

theorem coilsFollow_lock (p : Station) (tag : Byte) :
    Keeps State.CoilsFollow (State.lock p tag) := by
  intro s h
  unfold State.lock
  split
  · exact h.of_array rfl
  · split
    · exact h.of_array rfl
    · have hrun := coilsFollow_arbiter
        (({ s with mode := .run }.recogniseAll).recomputeAll allStations)
        (h.of_array ((State.array_recomputeAll _ _).trans (State.array_recogniseAll _)))
      exact hrun.of_array rfl

theorem coilsFollow_request (p : Station) (tag slot allow : Byte) (wait : Half) :
    Keeps State.CoilsFollow (State.request p tag slot allow wait) := by
  intro s h
  unfold State.request
  split
  · exact h.of_array rfl
  · split
    · exact h.of_array rfl
    · split
      · exact h.of_array rfl
      · split
        · exact h.of_array rfl
        · exact coilsFollow_arbiter _ (h.of_array (by simp))

theorem coilsFollow_cancel (p : Station) (tag id : Byte) :
    Keeps State.CoilsFollow (State.cancel p tag id) := by
  intro s h
  unfold State.cancel
  split
  · exact h.of_array rfl
  · split
    · exact h.of_array rfl
    · split
      · exact h.of_array (by simp)
      · exact coilsFollow_thenArbiter (coilsFollow_of_array fun u => u.array_endMuting _) _
          (h.of_array rfl)
      · exact h.of_array rfl

theorem coilsFollow_consent (p : Station) (tag value : Byte) :
    Keeps State.CoilsFollow (State.consent p tag value) := by
  intro s h
  unfold State.consent
  split
  · exact h.of_array rfl
  · split
    · exact h.of_array rfl
    · exact coilsFollow_arbiter _ (h.of_array rfl)

/-! ## The statement -/

theorem coilsFollow_modPort (p : Station) (g : Port → Port) :
    Keeps State.CoilsFollow (State.modPort p g) := coilsFollow_of_array fun s => s.array_modPort p g

theorem coilsFollow_onExpiry {f : State → State} (hf : Keeps State.CoilsFollow f)
    (expiry : Option Nat) : Keeps State.CoilsFollow (State.onExpiry expiry f) :=
  Keeps.onExpiry (fun t => coilsFollow_of_array fun s => s.array_advanceTo t) hf expiry

theorem coilsFollow_received (link : Link) (body : List Byte) {f : State → State}
    (hf : Keeps State.CoilsFollow f) : Keeps State.CoilsFollow (State.received link body f) :=
  Keeps.received (coilsFollow_of_array fun s => s.array_setCollecting link false)
    (coilsFollow_of_array fun s => s.array_discardRecord link) body hf

theorem coilsFollow_command (p : Station) (k : CmdKind) (tag : Byte) (i : Instr)
    {own : State → State} (hown : Keeps State.CoilsFollow own) :
    Keeps State.CoilsFollow (State.command p k tag i own) :=
  Keeps.command coilsFollow_modPort p k tag i hown

theorem coilsFollow_configCommand (p : Station) (k : CmdKind) (tag : Byte) (i : Instr)
    {own : State → State} (hown : Keeps State.CoilsFollow own) :
    Keeps State.CoilsFollow (State.command p k tag i (State.inConfig p k tag own)) :=
  coilsFollow_command p k tag i (Keeps.inConfig coilsFollow_modPort p k tag hown)

theorem coilsFollow_runCommand (p : Station) (k : CmdKind) (tag : Byte) (i : Instr)
    {own : State → State} (hown : Keeps State.CoilsFollow own) :
    Keeps State.CoilsFollow (State.command p k tag i (State.inRun p k tag own)) :=
  coilsFollow_command p k tag i (Keeps.inRun coilsFollow_modPort p k tag hown)

theorem coilsFollow_countedCommand (p : Station) (k : CmdKind) (tag : Byte) (i : Instr) (ok : Bool)
    {own : State → State} (hown : Keeps State.CoilsFollow own) :
    Keeps State.CoilsFollow (State.countedCommand p k tag i ok (State.inConfig p k tag own)) :=
  Keeps.countedCommand coilsFollow_modPort p k tag i ok
    (Keeps.inConfig coilsFollow_modPort p k tag hown)

theorem coilsFollow_withSlot (p : Station) (k : CmdKind) (tag station slot : Byte) (bad : List Byte)
    {own : Station → Fin 4 → State → State} (hown : ∀ st n s, (own st n s).array = s.array) :
    Keeps State.CoilsFollow (State.withSlot p k tag station slot bad own) :=
  Keeps.withSlot coilsFollow_modPort p k tag station slot bad
    fun st n => coilsFollow_of_array (hown st n)

theorem coilsFollow_rawSenseChange (k : Fin 96) (v : Sense) (s : State) (h : s.CoilsFollow) :
    ∃ t, exec (.rawSenseChange k v) s = .next t ∧ t.CoilsFollow := by
  refine ⟨_, rfl, ?_⟩
  have hc := h.contactor k.val
  split
  · exact h.modContactor k.val hc
  · refine h.modContactor k.val ?_
    unfold Contactor.rawChange
    split
    · exact hc
    · exact hc

/-- Every command keeps the coils with their contactors. -/
theorem exec_keeps_coilsFollow (i : Instr) (s : State) (h : s.CoilsFollow) :
    ∃ t, exec i s = .next t ∧ t.CoilsFollow := by
  cases i with
  | powerOnReset high => exact ⟨_, rfl, coilsFollow_powerUp high s h⟩
  | porAsserted => exact ⟨_, rfl, coilsFollow_held s h⟩
  | restart =>
    refine ⟨_, rfl, ?_⟩
    split
    · exact h
    · split
      · exact h
      · exact coilsFollow_restarted _ h
  | restartLineRelease => exact ⟨_, rfl, h⟩
  | localAssert st =>
    refine ⟨_, rfl, ?_⟩
    split
    · exact h
    · dsimp only
      split
      · exact h
      · exact coilsFollow_enterLocal st _ h
  | localRelease st => exact ⟨_, rfl, h⟩
  | holdAssert =>
    refine ⟨_, rfl, ?_⟩
    split
    · exact h
    · split
      · exact h
      · exact h.of_array (State.array_holdStarts _)
  | holdRelease =>
    refine ⟨_, rfl, ?_⟩
    split
    · exact h
    · split
      · exact h
      · exact coilsFollow_arbiter _ (coilsFollow_holdStops _ h)
  | senseEvent k =>
    exact ⟨_, rfl, coilsFollow_onExpiry (coilsFollow_thenArbiter
      (coilsFollow_debounceExpires k.val)) _ s h⟩
  | firstValueDeadline => exact ⟨_, rfl, coilsFollow_onExpiry coilsFollow_deadlinePasses _ s h⟩
  | travelLimitExpiry k =>
    exact ⟨_, rfl, coilsFollow_onExpiry (coilsFollow_thenArbiter
      (coilsFollow_travelLimitExpires k.val)) _ s h⟩
  | driveJobStartsClosed cause =>
    exact ⟨_, rfl, coilsFollow_onExpiry (coilsFollow_thenArbiter
      (coilsFollow_of_array fun u => u.array_closeStarts cause)) _ s h⟩
  | muteTimerExpiry =>
    exact ⟨_, rfl, coilsFollow_onExpiry (coilsFollow_thenArbiter
      (coilsFollow_of_array fun u => u.array_endMuting _)) _ s h⟩
  | holdLimitReached =>
    exact ⟨_, rfl, coilsFollow_onExpiry (coilsFollow_thenArbiter
      (coilsFollow_of_array State.array_holdLimitReached)) _ s h⟩
  | hotPauseLimitReached =>
    exact ⟨_, rfl, coilsFollow_onExpiry (coilsFollow_thenArbiter
      (coilsFollow_of_array fun u => u.array_enterAborting _)) _ s h⟩
  | settleTimerExpiry =>
    exact ⟨_, rfl, coilsFollow_onExpiry (coilsFollow_of_array State.array_settleExpires) _ s h⟩
  | proofTimerExpiry =>
    exact ⟨_, rfl, coilsFollow_onExpiry (coilsFollow_thenArbiter
      (coilsFollow_of_array State.array_proofFails)) _ s h⟩
  | waitLimitExpiry id =>
    exact ⟨_, rfl, coilsFollow_onExpiry
      (coilsFollow_of_array fun u => u.array_endRecord id _) _ s h⟩
  | monitorTimerExpiry st =>
    exact ⟨_, rfl, coilsFollow_onExpiry
      (coilsFollow_of_array fun u => u.array_monitorExpires st) _ s h⟩
  | coldDwellExpiry st =>
    exact ⟨_, rfl, coilsFollow_onExpiry (coilsFollow_thenArbiter
      (coilsFollow_setCold st .cold none)) _ s h⟩
  | reportTimeoutExpiry st =>
    exact ⟨_, rfl, coilsFollow_onExpiry (coilsFollow_thenArbiter
      (coilsFollow_reportExpires st)) _ s h⟩
  | rampTick st =>
    exact ⟨_, rfl, coilsFollow_onExpiry (coilsFollow_of_array fun u => u.array_tickRamp st) _ s h⟩
  | portRecordReceived p body =>
    exact ⟨_, rfl, Keeps.running (coilsFollow_received _ body (coilsFollow_modPort p _)) s h⟩
  | sampleSet body =>
    exact ⟨_, rfl, Keeps.running (coilsFollow_received _ body (coilsFollow_thenArbiter
      (coilsFollow_of_array fun u => u.array_monitorRecord body))) s h⟩
  | powerReport st body =>
    exact ⟨_, rfl, Keeps.running (coilsFollow_received _ body (coilsFollow_thenArbiter
      (coilsFollow_transmitterRecord st body))) s h⟩
  | discardedRecord link cause =>
    exact ⟨_, rfl, Keeps.running (coilsFollow_of_array fun u => u.array_discardRecord link) s h⟩
  | interbyteTimeout link =>
    refine ⟨_, rfl, Keeps.running (coilsFollow_of_array fun u => ?_) s h⟩
    split
    · exact u.array_discardRecord link
    · rfl
  | transmitComplete p => exact ⟨_, rfl, Keeps.running (coilsFollow_modPort p _) s h⟩
  | permitTransmitComplete st =>
    exact ⟨_, rfl, Keeps.running (coilsFollow_of_array fun u => u.array_modTransmitter st _) s h⟩
  | startByte link =>
    exact ⟨_, rfl, Keeps.running
      (coilsFollow_of_array fun u => u.array_setCollecting link true) s h⟩
  | loadSite p tag cPresent strokeWidth holdLimit muteTimeout =>
    exact ⟨_, rfl, coilsFollow_configCommand p _ tag _
      (coilsFollow_of_array fun u => u.array_loadSite p tag _ _ _ _) s h⟩
  | loadStation p tag =>
    exact ⟨_, rfl, coilsFollow_configCommand p _ tag _
      (coilsFollow_of_array fun u => u.array_loadStation p tag _ _ _ _ _ _ _ _) s h⟩
  | loadMap p tag first count entries =>
    exact ⟨_, rfl, coilsFollow_countedCommand p _ tag _ _
      (coilsFollow_loadMap p tag first count entries) s h⟩
  | loadPattern p tag =>
    exact ⟨_, rfl, coilsFollow_countedCommand p _ tag _ _ (coilsFollow_withSlot p _ tag _ _ _
      fun st n u => u.array_loadPattern p tag _ _ _ st n) s h⟩
  | loadPositions p tag =>
    exact ⟨_, rfl, coilsFollow_countedCommand p _ tag _ _ (coilsFollow_withSlot p _ tag _ _ _
      fun st n u => u.array_loadPositions p tag _ _ st n) s h⟩
  | clearSlot p tag =>
    exact ⟨_, rfl, coilsFollow_configCommand p _ tag _ (coilsFollow_withSlot p _ tag _ _ _
      fun st n u => u.array_clearSlot p tag st n) s h⟩
  | drive p tag banks positions =>
    exact ⟨_, rfl, coilsFollow_countedCommand p _ tag _ _
      (coilsFollow_drive p tag banks positions) s h⟩
  | lock p tag => exact ⟨_, rfl, coilsFollow_configCommand p _ tag _ (coilsFollow_lock p tag) s h⟩
  | request p tag slot allow wait =>
    exact ⟨_, rfl, coilsFollow_runCommand p _ tag _ (coilsFollow_request p tag slot allow wait) s h⟩
  | cancel p tag id =>
    exact ⟨_, rfl, coilsFollow_runCommand p _ tag _ (coilsFollow_cancel p tag id) s h⟩
  | consent p tag value =>
    exact ⟨_, rfl, coilsFollow_runCommand p _ tag _ (coilsFollow_consent p tag value) s h⟩
  | limit p tag value =>
    exact ⟨_, rfl, coilsFollow_runCommand p _ tag _
      (coilsFollow_of_array fun u => u.array_limit p tag value) s h⟩
  | sync p tag =>
    exact ⟨_, rfl, coilsFollow_runCommand p _ tag _
      (coilsFollow_of_array fun u => u.array_sync p tag) s h⟩
  | status p tag =>
    exact ⟨_, rfl, coilsFollow_command p _ tag _
      (coilsFollow_of_array fun u => u.array_status p tag) s h⟩
  | readContactors p tag first count =>
    exact ⟨_, rfl, coilsFollow_command p _ tag _
      (coilsFollow_of_array fun u => u.array_readContactors p tag first count) s h⟩
  | readPattern p tag =>
    exact ⟨_, rfl, coilsFollow_command p _ tag _ (coilsFollow_withSlot p _ tag _ _ _
      fun st n u => u.array_readPattern p tag st n) s h⟩
  | readTowers p tag station =>
    exact ⟨_, rfl, coilsFollow_command p _ tag _
      (coilsFollow_of_array fun u => u.array_readTowers p tag station) s h⟩
  | readQueue p tag =>
    exact ⟨_, rfl, coilsFollow_command p _ tag _
      (coilsFollow_of_array fun u => u.array_readQueue p tag) s h⟩
  | readFaults p tag =>
    exact ⟨_, rfl, coilsFollow_command p _ tag _
      (coilsFollow_of_array fun u => u.array_readFaults p tag) s h⟩
  | readClipLog p tag station =>
    exact ⟨_, rfl, coilsFollow_command p _ tag _
      (coilsFollow_of_array fun u => u.array_readClipLog p tag station) s h⟩
  | clearClipLog p tag mask =>
    exact ⟨_, rfl, coilsFollow_command p _ tag _
      (coilsFollow_of_array fun u => u.array_clearClipLog p tag mask) s h⟩
  | clearFault p tag index =>
    exact ⟨_, rfl, coilsFollow_command p _ tag _
      (coilsFollow_of_array fun u => u.array_clearFault p tag index) s h⟩
  | resume p tag =>
    exact ⟨_, rfl, coilsFollow_command p _ tag _
      (coilsFollow_of_array fun u => u.array_resume p tag) s h⟩
  | reclaim p tag =>
    exact ⟨_, rfl, coilsFollow_command p _ tag _
      (coilsFollow_of_array fun u => u.array_reclaim p tag) s h⟩
  | illegal p body =>
    refine ⟨_, rfl, ?_⟩
    split
    · split
      · exact h
      · exact Keeps.queueRecord coilsFollow_modPort p body s h
    · exact Keeps.submit coilsFollow_modPort p body
        (Keeps.illegalEffect coilsFollow_modPort p body) s h
  | rawSenseChange k v => exact coilsFollow_rawSenseChange k v s h

/-- A step of the part is a command, or a millisecond. -/
theorem step_cases {s t : State} (h : step s = .next t) :
    (∃ i u, exec i u = .next t ∧ u = { s with pending := u.pending }) ∨ t = s.tick := by
  unfold step at h
  split at h
  · next i rest _ => exact .inl ⟨i, { s with pending := rest }, h, rfl⟩
  · unfold State.idle at h
    split at h
    · next i _ => exact .inl ⟨i, s, h, rfl⟩
    · exact .inr (Host.Outcome.next.inj h).symm

/-- Settles O55, by cases on the step and on its command. -/
theorem stepKeepsCoilsFollow : Obligations.StepKeepsCoilsFollow := by
  intro s t h hstep
  rcases step_cases hstep with ⟨i, u, hexec, hu⟩ | rfl
  · have hfollows : u.CoilsFollow := by
      rw [hu]
      exact h
    obtain ⟨t', ht', hkept⟩ := exec_keeps_coilsFollow i u hfollows
    obtain rfl : t' = t := Host.Outcome.next.inj (ht'.symm.trans hexec)
    exact hkept
  · refine h.of_array ?_
    unfold State.tick
    split <;> rfl

end Sys2Proof.Machine
end

section
/-!
SUPPORT. The Pattern Table and the fields that speak of it (Chapter 2): which station and slot a
command names (R21), when a header is well formed and what a slot holds of it (R22, R23), and what
LOAD POSITIONS writes into a position map and what it leaves (R26).
-/

namespace Sys2Proof.Machine

/-! ## The station and the slot a command names (R21) -/

theorem stationOf?_eq_none {b : Byte} (h : 2 < b.toNat) : stationOf? b = none := by
  have hne : ∀ c : Byte, c.toNat ≤ 2 → b ≠ c := fun c hc hbc => by
    rw [hbc] at h
    exact Nat.not_lt.mpr hc h
  rw [stationOf?, if_neg (hne 0 (by decide)), if_neg (hne 1 (by decide)),
    if_neg (hne 2 (by decide))]

theorem slotOf?_eq_none {b : Byte} (h : 3 < b.toNat) : slotOf? b = none := by
  simp [slotOf?, Nat.not_lt.mpr h]

section WithSlot
variable {p : Station} {k : CmdKind} {tag st sl : Byte} {bad : List Byte}
  {own : Station → Fin 4 → State → State}

theorem withSlot_of_out_of_range (h : 2 < st.toNat ∨ 3 < sl.toNat) (s : State) :
    s.withSlot p k tag st sl bad own = s.reply p k tag .badValue bad := by
  rcases h with hst | hsl
  · simp [State.withSlot, stationOf?_eq_none hst]
  · simp [State.withSlot, slotOf?_eq_none hsl]

theorem withSlot_of_named {q : Station} {n : Fin 4} (hst : stationOf? st = some q)
    (hsl : slotOf? sl = some n) (s : State) :
    s.withSlot p k tag st sl bad own = own q n s := by
  simp [State.withSlot, hst, hsl]

theorem inConfig_of_run {own : State → State} {s : State} (h : s.mode = .run) :
    s.inConfig p k tag own = s.reply p k tag .wrongMode [] := by
  simp [State.inConfig, h]

/-- A counted command of the right length that an OPEN port takes in CONFIG goes to its own rule. -/
theorem countedCommand_inConfig_of_takes {s : State} {i : Instr} {a b : Nat} {own : State → State}
    (h : s.takes p i) (hmode : s.mode = .config) (hlen : a = b) :
    s.countedCommand p k tag i (a == b) (State.inConfig p k tag own) = own (s.begun p) := by
  rw [beq_iff_eq.mpr hlen, countedCommand_of_takes _ h,
    inConfig_of_config (s := s.begun p) own hmode]

end WithSlot

/-! ## The slots -/

theorem keptPositions_of_empty {s : State} {q : Station} {n : Fin 4} (h : s.slot q n = none) :
    s.keptPositions q n = List.replicate 96 none := by
  simp [State.keptPositions, h, freeMap, Config.contactors]

theorem keptPositions_of_loaded {s : State} {q : Station} {n : Fin 4} {old : Pattern}
    (h : s.slot q n = some old) : s.keptPositions q n = old.positions := by
  simp [State.keptPositions, h]

/-- R27: a slot that is cleared is EMPTY. -/
theorem setSlot_none_slot_same (s : State) (q : Station) (n : Fin 4) :
    (s.setSlot q n none).slot q n = none := by
  rw [State.slot, State.setSlot, PerStation.get_modify_same, List.getD_eq_getElem?_getD,
    List.getElem?_set_self']
  cases (s.slots.get q)[n.val]? <;> rfl

/-! ## Pattern headers (R22) -/

theorem within_iff {lo hi x : Nat} : within lo hi x = true ↔ lo ≤ x ∧ x ≤ hi := by
  simp [within]

/-- R22: the conditions on the licensed ratios and phases, tower by tower. -/
theorem ratios_phases_iff (ts : List RawTower) (h : RawHeader) :
    (ts.all (fun t => within 1 4000 t.ratio.toNat
        && (t.tower != h.reference || t.ratio.toNat == 1000)) = true
      ∧ ts.all (fun t => within 0 3599 t.phase.toNat
        && (t.tower != h.reference || t.phase.toNat == 0)) = true)
    ↔ ∀ t ∈ ts, 1 ≤ t.ratio.toNat ∧ t.ratio.toNat ≤ 4000 ∧ t.phase.toNat ≤ 3599
        ∧ (t.tower = h.reference → t.ratio.toNat = 1000 ∧ t.phase.toNat = 0) := by
  simp only [List.all_eq_true, ← forall₂_and]
  refine forall₂_congr fun t _ => ?_
  by_cases href : t.tower = h.reference
  · simp [within_iff, href]
    omega
  · simp [within_iff, href, and_assoc]

/-- R22: when a header is well formed. The bound of a caution limit is that of its out limit. -/
theorem headerOk_iff (n : Byte) (ts : List RawTower) (h : RawHeader) : headerOk n ts h = true ↔
    1 ≤ n.toNat ∧ n.toNat ≤ 12
    ∧ (∀ t ∈ ts, t.tower.toNat ≤ 11) ∧ (ts.map RawTower.tower).Nodup
    ∧ (∃ t ∈ ts, t.tower = h.reference)
    ∧ (∀ t ∈ ts, 1 ≤ t.ratio.toNat ∧ t.ratio.toNat ≤ 4000 ∧ t.phase.toNat ≤ 3599
        ∧ (t.tower = h.reference → t.ratio.toNat = 1000 ∧ t.phase.toNat = 0))
    ∧ 1 ≤ h.licensedPower.toNat ∧ h.licensedPower.toNat ≤ 1000
    ∧ 1 ≤ h.ratioCaution.toNat ∧ h.ratioCaution.toNat ≤ h.ratioOut.toNat
    ∧ h.ratioOut.toNat ≤ 500
    ∧ 1 ≤ h.phaseCaution.toNat ∧ h.phaseCaution.toNat ≤ h.phaseOut.toNat
    ∧ h.phaseOut.toNat ≤ 900
    ∧ h.outCap.toNat ≤ h.cautionCap.toNat ∧ h.cautionCap.toNat ≤ 1000
    ∧ 100 ≤ h.proofLevel.toNat ∧ h.proofLevel.toNat ≤ 1000
    ∧ h.settle.toNat ≤ 10000
    ∧ 1 ≤ h.proofCount.toNat ∧ h.proofCount.toNat ≤ 8
    ∧ 1 ≤ h.proofTimeout.toNat ∧ h.proofTimeout.toNat ≤ 120 := by
  have htowers : ts.all (fun t => within 0 11 t.tower.toNat) = true
      ↔ ∀ t ∈ ts, t.tower.toNat ≤ 11 := by simp [within_iff]
  have href : ts.any (fun t => t.tower == h.reference) = true
      ↔ ∃ t ∈ ts, t.tower = h.reference := by simp
  rw [← ratios_phases_iff, ← htowers, ← href]
  simp only [headerOk, Bool.and_eq_true, decide_eq_true_eq, within_iff, and_assoc,
    and_congr_right_iff]
  intros
  omega

/-! ## What a slot holds of a header (R23) -/

/-- R23: the tower list stands in ascending order. -/
theorem sortedTowers_ascending (ts : List RawTower) :
    ((sortedTowers ts).map TowerLicence.tower).Pairwise (· < ·) := by
  refine List.pairwise_map.mpr (List.Pairwise.filterMap _ ?_ List.pairwise_lt_range)
  intro a b hab x hx y hy
  obtain ⟨r, -, rfl⟩ := Option.map_eq_some_iff.mp hx
  obtain ⟨r', -, rfl⟩ := Option.map_eq_some_iff.mp hy
  exact hab

/-- A tower list that names each tower at most once is searched by tower number. -/
theorem find?_tower_eq_some_iff {ts : List RawTower} (hnodup : (ts.map RawTower.tower).Nodup)
    {k : Nat} {t : RawTower} :
    ts.find? (fun r => r.tower.toNat == k) = some t ↔ t ∈ ts ∧ t.tower.toNat = k := by
  constructor
  · intro h
    exact ⟨List.mem_of_find?_eq_some h, by simpa using List.find?_some h⟩
  · rintro ⟨hmem, hk⟩
    obtain ⟨r, hr⟩ := Option.isSome_iff_exists.mp
      (List.find?_isSome (p := fun r : RawTower => r.tower.toNat == k).mpr
        ⟨t, hmem, beq_iff_eq.mpr hk⟩)
    have hrk : r.tower.toNat = k := by simpa using List.find?_some hr
    have hrt : r = t := List.inj_on_of_nodup_map hnodup (List.mem_of_find?_eq_some hr) hmem
      (BitVec.eq_of_toNat_eq (hrk.trans hk.symm))
    rw [hr, hrt]

/-- R23: the tower list holds each tower the header names, with its licensed ratio and phase. -/
theorem mem_sortedTowers {ts : List RawTower} (hrange : ∀ t ∈ ts, t.tower.toNat ≤ 11)
    (hnodup : (ts.map RawTower.tower).Nodup) (x : TowerLicence) :
    x ∈ sortedTowers ts ↔ ∃ t ∈ ts, x = ⟨t.tower.toNat, t.ratio.toNat, t.phase.toNat⟩ := by
  simp only [sortedTowers, List.mem_filterMap, List.mem_range, Option.map_eq_some_iff,
    find?_tower_eq_some_iff hnodup]
  constructor
  · rintro ⟨k, -, t, ⟨hmem, rfl⟩, rfl⟩
    exact ⟨t, hmem, rfl⟩
  · rintro ⟨t, hmem, rfl⟩
    exact ⟨t.tower.toNat, Nat.lt_succ_of_le (hrange t hmem), t, ⟨hmem, rfl⟩, rfl⟩

/-! ## The contactors of a bank enable (R1, R26) -/

theorem mem_enabledContactors {bk : Half} {j : Nat} :
    j ∈ enabledContactors bk ↔ j / 8 ∈ banksOf bk := by
  simp only [enabledContactors, List.mem_flatMap, List.mem_map, List.mem_range]
  constructor
  · rintro ⟨b, hb, i, hi, rfl⟩
    have hdiv : (8 * b + i) / 8 = b := by omega
    rwa [hdiv]
  · intro hj
    exact ⟨j / 8, hj, j % 8, Nat.mod_lt _ (by decide), Nat.div_add_mod j 8⟩

theorem enabledContactors_lt {bk : Half} {j : Nat} (h : j ∈ enabledContactors bk) : j < 96 := by
  have hbank : j / 8 < 12 :=
    List.mem_range.mp (List.mem_filter.mp (mem_enabledContactors.mp h)).1
  omega

theorem enabledContactors_length (bk : Half) :
    (enabledContactors bk).length = 8 * (banksOf bk).length := by
  simp [enabledContactors, List.length_flatMap, Nat.mul_comm]

/-- The contactors of the enabled banks stand in ascending order: none has two entries. -/
theorem enabledContactors_nodup (bk : Half) : (enabledContactors bk).Nodup := by
  have hascending : (enabledContactors bk).Pairwise (· < ·) := by
    refine List.pairwise_flatMap.mpr ⟨fun b _ => ?_, ?_⟩
    · exact List.pairwise_map.mpr (List.pairwise_lt_range.imp fun h => Nat.add_lt_add_left h _)
    · refine (List.pairwise_lt_range.filter _).imp fun {b c} hbc x hx y hy => ?_
      obtain ⟨i, hi, rfl⟩ := List.mem_map.mp hx
      obtain ⟨j, -, rfl⟩ := List.mem_map.mp hy
      have hi8 : i < 8 := List.mem_range.mp hi
      omega
  exact hascending.imp Nat.ne_of_lt

theorem bankEntries_map_fst {bk : Half} {ps : List Byte}
    (hlen : ps.length = 8 * (banksOf bk).length) :
    (bankEntries bk ps).map Prod.fst = enabledContactors bk :=
  List.map_fst_zip (by rw [enabledContactors_length, hlen])

/-- Where no bank is enabled no entry can fail. -/
theorem banksOf_ne_nil_of_find? {bk : Half} {ps : List Byte} {f : Nat × Byte → Bool}
    {e : Nat × Byte} (h : (bankEntries bk ps).find? f = some e) : banksOf bk ≠ [] := by
  intro hnone
  simp [bankEntries, enabledContactors, hnone] at h

/-! ## What LOAD POSITIONS writes (R26) -/

theorem writePositions_cons (e : Nat × Byte) (es : List (Nat × Byte)) (ps : List (Option Pos)) :
    writePositions (e :: es) ps
      = writePositions es (ps.set e.1 ((positionOf? e.2).getD none)) := rfl

theorem writePositions_length (es : List (Nat × Byte)) (ps : List (Option Pos)) :
    (writePositions es ps).length = ps.length := by
  induction es generalizing ps with
  | nil => rfl
  | cons e es ih => rw [writePositions_cons, ih, List.length_set]

/-- A contactor without an entry keeps its position. -/
theorem writePositions_of_notMem {es : List (Nat × Byte)} {j : Nat} (h : j ∉ es.map Prod.fst)
    (ps : List (Option Pos)) : (writePositions es ps)[j]? = ps[j]? := by
  induction es generalizing ps with
  | nil => rfl
  | cons e es ih =>
    obtain ⟨hne, htail⟩ := not_or.mp (mt List.mem_cons.mpr h)
    rw [writePositions_cons, ih htail, List.getElem?_set_ne (Ne.symm hne)]

/-- A contactor with one entry holds what the entry says. -/
theorem writePositions_of_mem {es : List (Nat × Byte)} (hnodup : (es.map Prod.fst).Nodup)
    {e : Nat × Byte} (he : e ∈ es) {ps : List (Option Pos)} (hlt : e.1 < ps.length) :
    (writePositions es ps)[e.1]? = some ((positionOf? e.2).getD none) := by
  induction es generalizing ps with
  | nil => cases he
  | cons d es ih =>
    obtain ⟨hnotMem, htail⟩ := List.nodup_cons.mp hnodup
    rw [writePositions_cons]
    rcases List.mem_cons.mp he with rfl | hmem
    · rw [writePositions_of_notMem hnotMem, List.getElem?_set_self hlt]
    · exact ih htail hmem (by rwa [List.length_set])

/-- R25: an entry that may stand has a position in its encoding. -/
theorem positionOf?_of_not_entryFails {s : State} {q : Station} {e : Nat × Byte}
    (h : s.entryFails q e = false) : some ((positionOf? e.2).getD none) = positionOf? e.2 := by
  cases hpos : positionOf? e.2 with
  | none => simp [State.entryFails, hpos] at h
  | some x => rfl

/-- R26: the entries of the enabled banks are written, those of the others are kept. -/
theorem writePositions_bankEntries {bk : Half} {bytes : List Byte} {s : State} {q : Station}
    {ps : List (Option Pos)} (hlen : bytes.length = 8 * (banksOf bk).length)
    (hok : ∀ e ∈ bankEntries bk bytes, s.entryFails q e = false) (hps : ps.length = 96) :
    (∀ e ∈ bankEntries bk bytes,
        (writePositions (bankEntries bk bytes) ps)[e.1]? = positionOf? e.2)
    ∧ ∀ j, j / 8 ∉ banksOf bk → (writePositions (bankEntries bk bytes) ps)[j]? = ps[j]? := by
  have hfst := bankEntries_map_fst hlen
  constructor
  · intro e he
    have hmem : e.1 ∈ enabledContactors bk := hfst ▸ List.mem_map_of_mem he
    have hlt : e.1 < ps.length := hps ▸ enabledContactors_lt hmem
    have hnodup : ((bankEntries bk bytes).map Prod.fst).Nodup := hfst ▸ enabledContactors_nodup bk
    rw [writePositions_of_mem hnodup he hlt, positionOf?_of_not_entryFails (hok e he)]
  · intro j hj
    refine writePositions_of_notMem ?_ ps
    rw [hfst]
    exact fun hmem => hj (mem_enabledContactors.mp hmem)

end Sys2Proof.Machine
end

section
/-!
The statements about the Pattern Table: LOAD PATTERN and LOAD POSITIONS (R22 to R26) and
CLEAR SLOT (R27).
-/

namespace Sys2Proof.Machine

/-! ## LOAD PATTERN (R22 to R24) -/

section LoadPattern
variable {s : State} {p : Station} {tag st sl n : Byte} {ts : List RawTower} {h : RawHeader}

theorem exec_loadPattern_of_takes (htakes : s.takes p (.loadPattern p tag st sl n ts h))
    (hmode : s.mode = .config) (hlen : ts.length = n.toNat) :
    exec (.loadPattern p tag st sl n ts h) s = .next ((s.begun p).withSlot p .loadPattern tag st
      sl [] (State.loadPattern p tag n ts h)) :=
  congrArg Host.Outcome.next (countedCommand_inConfig_of_takes htakes hmode hlen)

theorem loadPattern_of_not_headerOk (hok : headerOk n ts h = false) (q : Station) (k : Fin 4) :
    s.loadPattern p tag n ts h q k = s.reply p .loadPattern tag .badValue [] := by
  simp [State.loadPattern, hok]

theorem loadPattern_of_headerOk (hok : headerOk n ts h = true) (q : Station) (k : Fin 4) :
    s.loadPattern p tag n ts h q k
      = (s.setSlot q k (some (patternOf ts h (s.keptPositions q k)))).reply p .loadPattern tag
        .ok [] := by
  simp [State.loadPattern, hok]

end LoadPattern

/-! ## LOAD POSITIONS (R25, R26) -/

section LoadPositions
variable {s : State} {p q : Station} {tag st sl : Byte} {k : Fin 4} {bk : Half} {ps : List Byte}
  {old : Pattern}

theorem exec_loadPositions_of_takes (htakes : s.takes p (.loadPositions p tag st sl bk ps))
    (hmode : s.mode = .config) (hlen : ps.length = 8 * (banksOf bk).length) :
    exec (.loadPositions p tag st sl bk ps) s = .next ((s.begun p).withSlot p .loadPositions tag st
      sl absent1 (State.loadPositions p tag bk ps)) :=
  congrArg Host.Outcome.next (countedCommand_inConfig_of_takes htakes hmode hlen)

theorem loadPositions_of_empty (hslot : s.slot q k = none) :
    s.loadPositions p tag bk ps q k = s.reply p .loadPositions tag .noPattern [] := by
  simp [State.loadPositions, hslot]

theorem loadPositions_of_no_bank (hslot : s.slot q k = some old) (hbank : banksOf bk = []) :
    s.loadPositions p tag bk ps q k = s.reply p .loadPositions tag .noChange [] := by
  simp [State.loadPositions, hslot, hbank]

theorem loadPositions_of_entryFails (hslot : s.slot q k = some old) {e : Nat × Byte}
    (hfails : (bankEntries bk ps).find? (s.entryFails q) = some e) :
    s.loadPositions p tag bk ps q k = s.reply p .loadPositions tag .badValue (byte1 e.1) := by
  simp [State.loadPositions, hslot, banksOf_ne_nil_of_find? hfails, hfails]

theorem loadPositions_of_entries_stand (hslot : s.slot q k = some old) (hbank : banksOf bk ≠ [])
    (hok : ∀ e ∈ bankEntries bk ps, s.entryFails q e = false) :
    s.loadPositions p tag bk ps q k = (s.setSlot q k (some { old with
      positions := writePositions (bankEntries bk ps) old.positions })).reply p .loadPositions tag
        .ok [] := by
  have hnone : (bankEntries bk ps).find? (s.entryFails q) = none :=
    List.find?_eq_none.mpr fun e he => by simp [hok e he]
  simp [State.loadPositions, hslot, hbank, hnone]

end LoadPositions

/-- Settles O35: the two commands by their refusals and taken cases, the written map by
`writePositions_bankEntries`, the header by `headerOk_iff`, its towers by `mem_sortedTowers`. -/
theorem loadPatternAndPositions : Obligations.LoadPatternAndPositions := by
  refine ⟨?loadPattern, ?loadPositions, headerOk_iff, ?stored⟩
  case loadPattern =>
    intro s p tag st sl n ts h htakes hmode hlen
    simp only [exec_loadPattern_of_takes htakes hmode hlen]
    refine ⟨fun hbad => by rw [withSlot_of_out_of_range hbad], fun q k hst hsl => ?_⟩
    rw [withSlot_of_named hst hsl]
    refine ⟨fun hok => ?_, fun hok hslot => ?_, fun old hok hslot => ?_⟩
    · rw [loadPattern_of_not_headerOk hok]
    · rw [loadPattern_of_headerOk hok, keptPositions_of_empty (s := s.begun p) hslot]
    · rw [loadPattern_of_headerOk hok, keptPositions_of_loaded (s := s.begun p) hslot]
  case loadPositions =>
    intro s p tag st sl bk ps htakes hmode hlen
    simp only [exec_loadPositions_of_takes htakes hmode hlen]
    refine ⟨fun hbad => by rw [withSlot_of_out_of_range hbad]; rfl, fun q k hst hsl => ?_⟩
    rw [withSlot_of_named hst hsl]
    refine ⟨fun hslot => by rw [loadPositions_of_empty (s := s.begun p) hslot],
      fun old hslot => ⟨?_, ?_, ?_⟩⟩
    · intro hbank
      rw [loadPositions_of_no_bank (s := s.begun p) hslot hbank]
    · intro e hfails
      rw [loadPositions_of_entryFails (s := s.begun p) hslot hfails]
      rfl
    · intro hbank hok hmap
      exact ⟨_, congrArg Host.Outcome.next (loadPositions_of_entries_stand hslot hbank hok),
        (writePositions_length _ _).trans hmap, writePositions_bankEntries hlen hok hmap⟩
  case stored =>
    intro n ts h ps hok
    obtain ⟨-, -, hrange, hnodup, -⟩ := (headerOk_iff n ts h).mp hok
    exact ⟨sortedTowers_ascending ts, mem_sortedTowers hrange hnodup, rfl⟩

/-! ## CLEAR SLOT (R27) -/

section ClearSlot
variable {s : State} {p q : Station} {tag st sl : Byte} {k : Fin 4}

theorem exec_clearSlot_of_takes (htakes : s.takes p (.clearSlot p tag st sl)) :
    exec (.clearSlot p tag st sl) s = .next ((s.begun p).inConfig p .clearSlot tag
      (State.withSlot p .clearSlot tag st sl [] (State.clearSlot p tag))) :=
  congrArg Host.Outcome.next (command_of_takes _ htakes)

theorem clearSlot_of_empty (hslot : s.slot q k = none) :
    s.clearSlot p tag q k = s.reply p .clearSlot tag .noChange [] := by
  simp [State.clearSlot, hslot]

theorem clearSlot_of_loaded (hslot : (s.slot q k).isSome = true) :
    s.clearSlot p tag q k = (s.setSlot q k none).reply p .clearSlot tag .ok [] := by
  obtain ⟨old, hold⟩ := Option.isSome_iff_exists.mp hslot
  simp [State.clearSlot, hold]

end ClearSlot

/-- Settles O36: the mode, then the fields, then the slot. -/
theorem clearSlotEmptiesTheSlot : Obligations.ClearSlotEmptiesTheSlot := by
  intro s p tag st sl htakes
  rw [exec_clearSlot_of_takes htakes]
  refine ⟨fun hrun => by rw [inConfig_of_run (s := s.begun p) hrun], fun hconfig hbad => ?_,
    fun hconfig q k hst hsl => ?_⟩
  · rw [inConfig_of_config (s := s.begun p) _ hconfig, withSlot_of_out_of_range hbad]
  · rw [inConfig_of_config (s := s.begun p) _ hconfig, withSlot_of_named hst hsl]
    have hempty := setSlot_none_slot_same s q k
    exact ⟨fun hslot => congrArg _ (clearSlot_of_empty hslot), fun hslot =>
      ⟨congrArg _ (clearSlot_of_loaded hslot), hempty, keptPositions_of_empty hempty⟩⟩

end Sys2Proof.Machine
end

section
/-!
SUPPORT. The roster of the Transition Queue: of each record its id, its station, whether it is QUEUED and
whether it is granted, beside the mode, the id counter and the record the engine holds. Everything
section 4.1 says of the order of the queue is said of the roster, and most operations of the part leave
it as it is.
-/

namespace Sys2Proof.Machine

/-! ## The roster and its order (R55 to R57) -/

/-- What the order of the queue reads of a record. -/
structure QueueEntry where
  id : Nat
  station : Station
  queued : Bool
  granted : Bool

def TRecord.entry (r : TRecord) : QueueEntry :=
  ⟨r.id, r.station, r.stage == .queued, r.flight.isSome⟩

/-- The id of the record the engine holds. -/
def Engine.held : Engine → Option Nat
  | .free => none
  | .transition id => some id
  | .drive _ => none

structure Roster where
  mode : Mode
  held : Option Nat
  nextId : Nat
  entries : List QueueEntry

def State.roster (s : State) : Roster :=
  ⟨s.mode, s.engine.held, s.nextId, s.queue.map TRecord.entry⟩

/-- `State.QueueOrdered`, said of the roster (`queueOrdered_iff`). -/
structure Roster.Ordered (R : Roster) : Prop where
  ids_nodup : (R.entries.map QueueEntry.id).Nodup
  ids_range : ∀ e ∈ R.entries, 1 ≤ e.id ∧ e.id ≤ 255
  next_range : 1 ≤ R.nextId ∧ R.nextId ≤ 255
  stations_nodup : ((R.entries.filter QueueEntry.queued).map QueueEntry.station).Nodup
  granted_eq : ∀ e ∈ R.entries, e.granted = !e.queued
  held_eq : ∀ e ∈ R.entries, e.queued = false → R.held = some e.id
  mem_of_held : ∀ id, R.held = some id → ∃ e ∈ R.entries, e.id = id ∧ e.queued = false
  config_silent : R.mode = .config → R.entries = [] ∧ R.held = none

theorem Engine.held_eq_some {e : Engine} {id : Nat} : e.held = some id ↔ e = .transition id := by
  cases e <;> simp [Engine.held]

theorem TRecord.entry_queued {r : TRecord} : r.entry.queued = false ↔ r.stage ≠ .queued := by
  simp [TRecord.entry]

theorem State.roster_queued (s : State) : s.roster.entries.filter QueueEntry.queued
    = (s.queue.filter (fun r => r.stage == .queued)).map TRecord.entry := by
  simp only [State.roster, List.filter_map]
  rfl

theorem queueOrdered_iff (s : State) : s.QueueOrdered ↔ s.roster.Ordered := by
  have hids : s.roster.entries.map QueueEntry.id = s.queue.map TRecord.id := by
    simp only [State.roster, List.map_map]
    rfl
  have hstations : (s.roster.entries.filter QueueEntry.queued).map QueueEntry.station
      = (s.queue.filter (fun r => r.stage == .queued)).map TRecord.station := by
    rw [s.roster_queued, List.map_map]
    rfl
  have hgranted : ∀ r : TRecord, r.entry.granted = (!r.entry.queued)
      ↔ (r.flight.isSome = true ↔ r.stage ≠ .queued) := fun r => by
    rw [← r.entry_queued, Bool.eq_iff_iff, Bool.not_eq_true']
    rfl
  have hall : ∀ {p : QueueEntry → Prop}, (∀ e ∈ s.roster.entries, p e) ↔ ∀ r ∈ s.queue, p r.entry :=
    List.forall_mem_map
  constructor
  · rintro ⟨h1, h2, h3, h4, h5, h6, h7, h8⟩
    refine ⟨hids ▸ h1, hall.mpr h2, h3, hstations ▸ h4, hall.mpr fun r hr => (hgranted r).mpr (h5 r hr),
      hall.mpr fun r hr hq => Engine.held_eq_some.mpr (h6 r hr (r.entry_queued.mp hq)),
      fun id hid => ?_, fun hm => ?_⟩
    · obtain ⟨r, hr, hrid, hrq⟩ := h7 id (Engine.held_eq_some.mp hid)
      exact ⟨r.entry, List.mem_map_of_mem hr, hrid, r.entry_queued.mpr hrq⟩
    · obtain ⟨hqueue, hengine⟩ := h8 hm
      refine ⟨by simp [State.roster, hqueue], Option.eq_none_iff_forall_ne_some.mpr fun id hid => ?_⟩
      exact hengine id (Engine.held_eq_some.mp hid)
  · intro h
    refine ⟨hids ▸ h.ids_nodup, hall.mp h.ids_range, h.next_range, hstations ▸ h.stations_nodup,
      fun r hr => (hgranted r).mp (hall.mp h.granted_eq r hr),
      fun r hr hq => Engine.held_eq_some.mp (hall.mp h.held_eq r hr (r.entry_queued.mpr hq)),
      fun id hid => ?_, fun hm => ?_⟩
    · obtain ⟨e, he, heid, heq⟩ := h.mem_of_held id (Engine.held_eq_some.mpr hid)
      obtain ⟨r, hr, rfl⟩ := List.mem_map.mp he
      exact ⟨r, hr, heid, r.entry_queued.mp heq⟩
    · obtain ⟨hqueue, hheld⟩ := h.config_silent hm
      refine ⟨List.map_eq_nil_iff.mp hqueue, fun id hid => ?_⟩
      exact nomatch hheld.symm.trans (Engine.held_eq_some.mpr hid)

/-! ## What is done to a roster -/

/-- R55: the record with this id leaves the queue, and the engine if it holds it. -/
def Roster.remove (id : Nat) (R : Roster) : Roster :=
  { R with
    held := if R.held = some id then none else R.held
    entries := R.entries.filter (fun e => e.id != id) }

/-- R72, R74: the record with this id is granted. -/
def QueueEntry.grant (id : Nat) (e : QueueEntry) : QueueEntry :=
  if e.id = id then { e with queued := false, granted := true } else e

def Roster.grant (id : Nat) (R : Roster) : Roster :=
  { R with held := some id, entries := R.entries.map (QueueEntry.grant id) }

/-- R61: a new QUEUED record joins the tail. -/
def Roster.append (id next : Nat) (p : Station) (R : Roster) : Roster :=
  { R with nextId := next, entries := R.entries ++ [⟨id, p, true, false⟩] }

/-- The granted record is QUEUED no more, and every other is what it was. -/
theorem Roster.grant_queued (id : Nat) (R : Roster) :
    (R.grant id).entries.filter QueueEntry.queued
      = (R.entries.filter QueueEntry.queued).filter (fun e => e.id != id) := by
  simp only [Roster.grant, List.filter_map, List.filter_filter]
  have hkept : R.entries.filter (QueueEntry.queued ∘ QueueEntry.grant id)
      = R.entries.filter (fun e => e.id != id && e.queued) :=
    List.filter_congr fun e _ => by
      by_cases he : e.id = id <;> simp [QueueEntry.grant, he]
  rw [hkept]
  refine (List.map_congr_left (g := fun e => e) fun e he => ?_).trans (List.map_id' _)
  exact if_neg (by simpa using (Bool.and_eq_true_iff.mp (List.mem_filter.mp he).2).1)

namespace Roster.Ordered
variable {R : Roster}

theorem remove (h : R.Ordered) (id : Nat) : (R.remove id).Ordered where
  ids_nodup := h.ids_nodup.sublist (List.filter_sublist.map _)
  ids_range := fun e he => h.ids_range e (List.mem_filter.mp he).1
  next_range := h.next_range
  stations_nodup := h.stations_nodup.sublist ((List.filter_sublist.filter _).map _)
  granted_eq := fun e he => h.granted_eq e (List.mem_filter.mp he).1
  held_eq := fun e he hq => by
    obtain ⟨hmem, hne⟩ := List.mem_filter.mp he
    have hheld := h.held_eq e hmem hq
    have hne : ¬ e.id = id := by simpa using hne
    simpa [Roster.remove, hheld] using hne
  mem_of_held := fun i hi => by
    have hheld : R.held = some i ∧ i ≠ id := by
      simp only [Roster.remove] at hi
      split at hi
      · cases hi
      · next hne => exact ⟨hi, fun hid => hne (hid ▸ hi)⟩
    obtain ⟨e, he, heid, hq⟩ := h.mem_of_held i hheld.1
    exact ⟨e, List.mem_filter.mpr ⟨he, by simpa [heid] using hheld.2⟩, heid, hq⟩
  config_silent := fun hm => by
    obtain ⟨hentries, hheld⟩ := h.config_silent hm
    simp [Roster.remove, hentries, hheld]

/-- A QUEUED record of a part whose engine holds none is granted. -/
theorem grant (h : R.Ordered) (hheld : R.held = none) {id : Nat}
    (hid : ∃ e ∈ R.entries, e.id = id) : (R.grant id).Ordered := by
  have hid_eq : ∀ e : QueueEntry, (e.grant id).id = e.id := fun e => by
    unfold QueueEntry.grant
    split <;> rfl
  have hqueued : ∀ e ∈ R.entries, e.queued = true := fun e he => by
    by_contra hq
    exact nomatch hheld.symm.trans (h.held_eq e he (Bool.not_eq_true _ ▸ hq))
  have hmem : ∀ e ∈ (R.grant id).entries, ∃ d ∈ R.entries, d.grant id = e := fun e he =>
    List.mem_map.mp he
  have hstill : ∀ d : QueueEntry, d.id ≠ id → d.grant id = d := fun d hd => if_neg hd
  refine ⟨?_, fun e he => ?_, h.next_range, ?_, fun e he => ?_, fun e he hq => ?_, fun i hi => ?_,
    fun hm => ?_⟩
  · have hids : (R.grant id).entries.map QueueEntry.id = R.entries.map QueueEntry.id := by
      simp only [Roster.grant, List.map_map]
      exact List.map_congr_left fun e _ => hid_eq e
    exact hids ▸ h.ids_nodup
  · obtain ⟨d, hd, rfl⟩ := hmem e he
    rw [hid_eq]
    exact h.ids_range d hd
  · rw [Roster.grant_queued]
    exact h.stations_nodup.sublist (List.filter_sublist.map _)
  · obtain ⟨d, hd, rfl⟩ := hmem e he
    have hgranted := h.granted_eq d hd
    unfold QueueEntry.grant
    split
    · rfl
    · exact hgranted
  · obtain ⟨d, hd, rfl⟩ := hmem e he
    rw [hid_eq]
    by_cases hdid : d.id = id
    · exact congrArg some hdid.symm
    · rw [hstill d hdid, hqueued d hd] at hq
      cases hq
  · obtain ⟨d, hd, hdid⟩ := hid
    obtain rfl : id = i := Option.some.inj hi
    exact ⟨d.grant id, List.mem_map_of_mem hd, (hid_eq d).trans hdid, by simp [QueueEntry.grant, hdid]⟩
  · obtain ⟨d, hd, -⟩ := hid
    exact absurd ((h.config_silent hm).1 ▸ hd) List.not_mem_nil

/-- A fresh id in RUN, for a station that has no QUEUED record. -/
theorem append (h : R.Ordered) (hmode : R.mode = .run) {id next : Nat} {p : Station}
    (hid : 1 ≤ id ∧ id ≤ 255) (hfresh : id ∉ R.entries.map QueueEntry.id)
    (hnext : 1 ≤ next ∧ next ≤ 255) (hnone : ∀ e ∈ R.entries, e.queued = true → e.station ≠ p) :
    (R.append id next p).Ordered := by
  have hall : ∀ {P : QueueEntry → Prop}, (∀ e ∈ R.entries, P e) → P ⟨id, p, true, false⟩ →
      ∀ e ∈ (R.append id next p).entries, P e := fun hold hnew e he => by
    rcases List.mem_append.mp he with he | he
    · exact hold e he
    · obtain rfl := List.mem_singleton.mp he
      exact hnew
  refine ⟨?_, hall h.ids_range hid, hnext, ?_, hall h.granted_eq rfl, hall h.held_eq nofun,
    fun i hi => ?_, fun hm => nomatch hmode.symm.trans hm⟩
  · simp only [Roster.append, List.map_append, List.map_cons, List.map_nil]
    exact List.nodup_append.mpr ⟨h.ids_nodup, List.nodup_singleton _, fun i hi j hj hij =>
      hfresh ((hij.trans (List.mem_singleton.mp hj)) ▸ hi)⟩
  · simp only [Roster.append, List.filter_append, List.map_append]
    refine List.nodup_append.mpr ⟨h.stations_nodup, List.nodup_singleton _, fun q hq x hx hqx => ?_⟩
    obtain ⟨e, he, rfl⟩ := List.mem_map.mp hq
    obtain ⟨hmem, hqueued⟩ := List.mem_filter.mp he
    exact hnone e hmem hqueued (hqx.trans (List.mem_singleton.mp hx))
  · obtain ⟨e, he, hrest⟩ := h.mem_of_held i hi
    exact ⟨e, List.mem_append_left _ he, hrest⟩

/-- Three stations with one QUEUED record each, and one granted record. -/
theorem length_le (h : R.Ordered) : R.entries.length ≤ 4 := by
  have hqueued : (R.entries.filter QueueEntry.queued).length ≤ 3 := by
    have hsub : ((R.entries.filter QueueEntry.queued).map QueueEntry.station) ⊆ allStations :=
      fun st _ => mem_allStations st
    simpa [allStations] using (h.stations_nodup.subperm hsub).length_le
  have hgranted : (R.entries.filter (fun e => !e.queued)).length ≤ 1 := by
    have hids : ((R.entries.filter (fun e => !e.queued)).map QueueEntry.id).Nodup :=
      h.ids_nodup.sublist (List.filter_sublist.map _)
    have hsub : ((R.entries.filter (fun e => !e.queued)).map QueueEntry.id) ⊆ R.held.toList := by
      intro i hi
      obtain ⟨e, he, rfl⟩ := List.mem_map.mp hi
      obtain ⟨hmem, hq⟩ := List.mem_filter.mp he
      simp [h.held_eq e hmem (by simpa using hq)]
    have hle := (hids.subperm hsub).length_le
    have hone : R.held.toList.length ≤ 1 := by cases R.held <;> simp
    rw [List.length_map] at hle
    exact hle.trans hone
  have hsum := List.length_eq_length_filter_add (l := R.entries) QueueEntry.queued
  omega

end Roster.Ordered

end Sys2Proof.Machine
end

section
/-!
SUPPORT. Which operations leave the roster of the queue alone: one lemma for each, so that what is left
to prove about the order of the queue is about stages, grants, new records and the ends of records.
-/

namespace Sys2Proof.Machine

/-! ## Writes to the blocks -/

section Writes
variable (s : State) (st : Station)

@[simp] theorem State.roster_modStation (f : StationRecord → StationRecord) :
    (s.modStation st f).roster = s.roster := rfl
@[simp] theorem State.roster_modPermit (f : Permit → Permit) :
    (s.modPermit st f).roster = s.roster := rfl
@[simp] theorem State.roster_modPort (f : Port → Port) : (s.modPort st f).roster = s.roster := rfl
@[simp] theorem State.roster_modConf (f : Conformance → Conformance) :
    (s.modConf st f).roster = s.roster := rfl
@[simp] theorem State.roster_modTransmitter (f : TransmitterLink → TransmitterLink) :
    (s.modTransmitter st f).roster = s.roster := rfl
@[simp] theorem State.roster_modContactor (k : Nat) (f : Contactor → Contactor) :
    (s.modContactor k f).roster = s.roster := rfl
@[simp] theorem State.roster_setSlot (n : Fin 4) (p : Option Pattern) :
    (s.setSlot st n p).roster = s.roster := rfl
@[simp] theorem State.roster_advanceTo (t : Nat) : (s.advanceTo t).roster = s.roster := rfl
@[simp] theorem State.roster_notify (n : Notice) : (s.notify st n).roster = s.roster := rfl
@[simp] theorem State.roster_reply (k : CmdKind) (tag : Byte) (code : ResultCode)
    (fields : List Byte) : (s.reply st k tag code fields).roster = s.roster := rfl
@[simp] theorem State.roster_makePermit (output : Nat) :
    (s.makePermit st output).roster = s.roster := rfl
@[simp] theorem State.roster_formTowers (n : Fin 4) : (s.formTowers st n).roster = s.roster := rfl
@[simp] theorem State.roster_emptyTowers : (s.emptyTowers st).roster = s.roster := rfl
@[simp] theorem State.roster_startMonitor : (s.startMonitor st).roster = s.roster := rfl
@[simp] theorem State.roster_stopMonitor : (s.stopMonitor st).roster = s.roster := rfl

@[simp] theorem State.roster_raiseFault (source : FaultSource) (kind : FaultKind) :
    (s.raiseFault source kind).roster = s.roster := by
  rw [raiseFault_frame]
  rfl

@[simp] theorem State.roster_recompute : (s.recompute st).roster = s.roster := by
  rw [recompute_frame]
  rfl

@[simp] theorem State.roster_recomputeAll (sts : List Station) :
    (s.recomputeAll sts).roster = s.roster := by
  rw [recomputeAll_frame]
  rfl

@[simp] theorem State.roster_changeContactor (k : Nat) (f : Contactor → Contactor) :
    (s.changeContactor k f).roster = s.roster := by
  rw [changeContactor_frame]
  rfl

@[simp] theorem State.roster_notifyCollateral (id : Nat) (c : StationSet) (b : Bool) :
    (s.notifyCollateral id c b).roster = s.roster := by
  rw [notifyCollateral_frame]
  rfl

@[simp] theorem State.roster_setStation (new : StationState) :
    (s.setStation st new).roster = s.roster := by
  unfold State.setStation
  dsimp only
  split <;> rfl

@[simp] theorem State.roster_seedTowers (g : TowerRecord → Grade) :
    (s.seedTowers st g).roster = s.roster := by
  unfold State.seedTowers
  dsimp only
  split <;> rfl

/-- A fold of operations that leave the roster leaves it. -/
theorem State.roster_foldl {α : Type} {f : State → α → State}
    (h : ∀ s x, (f s x).roster = s.roster) (l : List α) (s : State) :
    (l.foldl f s).roster = s.roster := by
  induction l generalizing s with
  | nil => rfl
  | cons x l ih => exact (ih (f s x)).trans (h s x)

/-- A write to a record that its entry does not show. -/
theorem State.roster_modRecord (id : Nat) {f : TRecord → TRecord} (h : ∀ r, (f r).entry = r.entry) :
    (s.modRecord id f).roster = s.roster := by
  have hentries : (s.queue.map (fun r => if r.id = id then f r else r)).map TRecord.entry
      = s.queue.map TRecord.entry := by
    rw [List.map_map]
    refine List.map_congr_left fun r _ => ?_
    simp only [Function.comp_apply]
    split
    · exact h r
    · rfl
  simp only [State.roster, State.modRecord, hentries]

@[simp] theorem State.roster_modFlight (f : Flight → Flight) :
    (s.modFlight f).roster = s.roster := by
  unfold State.modFlight State.modGranted
  split
  · exact s.roster_modRecord _ fun r => by simp [TRecord.entry]
  · rfl

@[simp] theorem State.roster_modDriveJob (f : DriveJob → DriveJob) :
    (s.modDriveJob f).roster = s.roster := by
  unfold State.modDriveJob
  split
  · next he => simp [State.roster, he, Engine.held]
  · rfl

@[simp] theorem State.roster_placeMute (muteSet : StationSet) :
    (s.placeMute muteSet).roster = s.roster := by
  refine (State.roster_foldl (fun s st => ?_) _ _).trans (s.roster_modFlight _)
  dsimp only
  split <;> simp

@[simp] theorem State.roster_releaseMute : s.releaseMute.roster = s.roster := by
  unfold State.releaseMute
  split
  · rfl
  · refine (State.roster_notifyCollateral _ _ _ _).trans
      ((State.roster_foldl (fun s st => ?_) _ _).trans (by simp))
    split <;> rfl

end Writes

/-! ## Contactors and drive jobs -/

section Contactors
variable (s : State) (st : Station) (k : Nat)

@[simp] theorem State.roster_driveStart (y : Pos) : (s.driveStart k y).2.roster = s.roster := by
  rcases driveStart_cases k y s with h | ⟨h, -⟩ | ⟨h, -⟩ | ⟨c, h⟩ <;> simp [h]

@[simp] theorem State.roster_deriveList (ks : List Nat) : (s.deriveList ks).roster = s.roster := by
  rw [State.deriveList_frame]
  rfl

@[simp] theorem State.roster_checkScanReady : s.checkScanReady.roster = s.roster := by
  unfold State.checkScanReady
  split
  · exact State.roster_deriveList _ _
  · rfl

@[simp] theorem State.roster_senseReport (v : Sense) : (s.senseReport k v).1.roster = s.roster := by
  unfold State.senseReport
  split
  · rfl
  · split
    case h_1 | h_4 => split <;> simp [State.contactorFault]
    all_goals simp [State.contactorFault]

@[simp] theorem State.roster_travelFailsFree (y : Pos) :
    (s.travelFailsFree k y).1.roster = s.roster := by
  obtain ⟨g, kind, cause, -, h⟩ := travelFailsFree_cases k y s
  rw [h, State.faulted_frame, changeContactor_frame]
  rfl

@[simp] theorem State.roster_travelExpires : (s.travelExpires k).1.roster = s.roster := by
  unfold State.travelExpires
  split
  · split
    · split <;> simp [State.travelFails, State.contactorFault]
    · simp [State.travelFails, State.contactorFault]
    · simp
    · simp
  · rfl

theorem State.roster_applyMap (ms : List MapEntry) : (s.applyMap k ms).roster = s.roster := by
  induction ms generalizing s k with
  | nil => rfl
  | cons m ms ih =>
    refine (ih _ _).trans ?_
    unfold State.applyMapEntry
    dsimp only
    split
    · exact State.roster_deriveList _ [k]
    · rfl

theorem State.roster_orderDrive (fuel : Nat) : (s.orderDrive fuel).roster = s.roster := by
  induction fuel generalizing s with
  | zero => rfl
  | succ fuel ih =>
    unfold State.orderDrive
    split
    · rfl
    · split
      · split
        · rfl
        · next m _ =>
          have hd := s.roster_driveStart m.contactor m.target
          generalize s.driveStart m.contactor m.target = answered at hd ⊢
          obtain ⟨answer, u⟩ := answered
          cases answer with
          | withheld => exact hd
          | started | arrived | failed => exact ((ih _).trans (u.roster_modDriveJob _)).trans hd
      · rfl

@[simp] theorem State.roster_endDriveIfDone : s.endDriveIfDone.roster = s.roster := by
  unfold State.endDriveIfDone State.driveJob
  cases he : s.engine with
  | drive j =>
    dsimp only
    split
    · simp [State.roster, he, Engine.held]
    · rfl
  | free | transition id => rfl

@[simp] theorem State.roster_stepDrive : s.stepDrive.roster = s.roster :=
  (State.roster_endDriveIfDone _).trans (s.roster_orderDrive _)

@[simp] theorem State.roster_closeStarts (cause : CloseCause) :
    (s.closeStarts cause).roster = s.roster := by
  simp [State.closeStarts]

@[simp] theorem State.roster_startProof (n : Fin 4) : (s.startProof st n).roster = s.roster :=
  s.roster_modFlight _

@[simp] theorem State.roster_holdStarts : s.holdStarts.roster = s.roster := by
  unfold State.holdStarts
  split
  · rfl
  · split
    · rfl
    · split <;> simp
  · simp

theorem State.roster_recogniseAll : s.recogniseAll.roster = s.roster := by
  refine State.roster_foldl (fun s st => ?_) allStations s
  unfold State.recognise
  split
  · split <;> simp
  · rfl

end Contactors

/-! ## The links and the station units -/

section Units
variable (s : State) (st : Station)

theorem State.roster_permitZero : s.permitZero.roster = s.roster :=
  State.roster_foldl (fun s st => by split <;> rfl) allStations s

@[simp] theorem State.roster_discardRecord (link : Link) :
    (s.discardRecord link).roster = s.roster := by
  cases link <;> rfl

@[simp] theorem State.roster_setCollecting (link : Link) (b : Bool) :
    (s.setCollecting link b).roster = s.roster := by
  cases link <;> rfl

@[simp] theorem State.roster_tickRamp : (s.tickRamp st).roster = s.roster := rfl

@[simp] theorem State.roster_monitorExpires : (s.monitorExpires st).roster = s.roster := by
  simp [State.monitorExpires]

@[simp] theorem State.roster_steadySet (p : Pattern) (ss : List Sample) :
    (s.steadySet st p ss).roster = s.roster := by
  have hheard : (s.heardMonitor st).roster = s.roster := by
    unfold State.heardMonitor
    dsimp only
    split <;> rfl
  unfold State.steadySet
  dsimp only
  split <;> split <;> simp [hheard]

end Units

/-! ## The commands of the station ports that do not touch the queue -/

section Commands
variable (s : State) (p : Station) (tag : Byte)

theorem State.roster_loadSite (cPresent strokeWidth : Byte) (holdLimit : Half) (muteTimeout : Byte) :
    (s.loadSite p tag cPresent strokeWidth holdLimit muteTimeout).roster = s.roster := by
  have hpresence : ∀ (u : State) b, (u.setPresence b).roster = u.roster := fun u b => by
    unfold State.setPresence
    split
    · rfl
    · split
      · simp [State.makePresent]
      · rfl
  unfold State.loadSite
  split
  · rfl
  · split
    · exact hpresence _ _
    · rfl

theorem State.roster_loadStation (station coldThreshold : Byte)
    (coldDwell reportTimeout rampStep : Half) (monitorTimeout escalate deescalate : Byte) :
    (s.loadStation p tag station coldThreshold coldDwell reportTimeout rampStep monitorTimeout
      escalate deescalate).roster = s.roster := by
  unfold State.loadStation
  split
  · rfl
  · split <;> rfl

theorem State.roster_loadMap (first count : Byte) (entries : List RawMapEntry) :
    (s.loadMap p tag first count entries).roster = s.roster := by
  unfold State.loadMap
  split
  · rfl
  · split
    · rfl
    · split
      · rfl
      · exact s.roster_applyMap _ _

theorem State.roster_loadPattern (n : Byte) (towers : List RawTower) (hdr : RawHeader) (st : Station)
    (slot : Fin 4) : (s.loadPattern p tag n towers hdr st slot).roster = s.roster := by
  unfold State.loadPattern
  split <;> rfl

theorem State.roster_loadPositions (banks : Half) (positions : List Byte) (st : Station)
    (slot : Fin 4) : (s.loadPositions p tag banks positions st slot).roster = s.roster := by
  unfold State.loadPositions
  split
  · rfl
  · split
    · rfl
    · split <;> rfl

theorem State.roster_clearSlot (st : Station) (slot : Fin 4) :
    (s.clearSlot p tag st slot).roster = s.roster := by
  unfold State.clearSlot
  split <;> rfl

theorem State.roster_limit (value : Half) : (s.limit p tag value).roster = s.roster :=
  State.roster_recompute _ p

theorem State.roster_sync : (s.sync p tag).roster = s.roster := by
  unfold State.sync
  split <;> rfl

theorem State.roster_readContactors (first count : Byte) :
    (s.readContactors p tag first count).roster = s.roster := by
  unfold State.readContactors
  split <;> rfl

theorem State.roster_readTowers (station : Byte) :
    (s.readTowers p tag station).roster = s.roster := by
  unfold State.readTowers
  split <;> rfl

theorem State.roster_readClipLog (station : Byte) :
    (s.readClipLog p tag station).roster = s.roster := by
  unfold State.readClipLog
  split <;> rfl

theorem State.roster_clearClipLog (mask : Half) :
    (s.clearClipLog p tag mask).roster = s.roster := by
  unfold State.clearClipLog
  split
  · rfl
  · split
    · rfl
    · split <;> rfl

theorem State.roster_clearFault (index : Byte) :
    (s.clearFault p tag index).roster = s.roster := by
  unfold State.clearFault
  split
  · rfl
  · split
    · split <;> rfl
    · split
      · rfl
      · split <;> rfl

theorem State.roster_resume : (s.resume p tag).roster = s.roster := by
  unfold State.resume
  split <;> rfl

theorem State.roster_reclaim : (s.reclaim p tag).roster = s.roster := by
  unfold State.reclaim
  split
  · split <;> rfl
  · rfl
  · rfl

end Commands

end Sys2Proof.Machine
end

section
/-!
SUPPORT. What takes a record from one place of the roster to another: its end (R55), its stages, its
grant (R72), and the id of a new one (R56).
-/

namespace Sys2Proof.Machine

/-! ## The end of a record (R55) -/

theorem endRecord_of_missing {s : State} {id : Nat} (x : TResult) (h : s.record? id = none) :
    s.endRecord id x = s := by
  simp only [State.endRecord, h]

theorem syncLeft_frame (p : Station) (id : Nat) (s : State) :
    s.syncLeft p id = { s with ports := (s.syncLeft p id).ports } := by
  unfold State.syncLeft
  split
  · rfl
  · split
    · split <;> rfl
    · rfl

theorem endRecord_engine {s : State} {id : Nat} {r : TRecord} (x : TResult)
    (h : s.record? id = some r) :
    (s.endRecord id x).engine = if s.engine = .transition id then .free else s.engine := by
  simp only [State.endRecord, h]
  rw [syncLeft_frame]
  rfl

theorem State.roster_endRecord {s : State} {id : Nat} {r : TRecord} (x : TResult)
    (h : s.record? id = some r) : (s.endRecord id x).roster = s.roster.remove id := by
  have hheld : (if s.engine = .transition id then Engine.free else s.engine).held
      = if s.engine.held = some id then none else s.engine.held := by
    by_cases he : s.engine = .transition id
    · rw [if_pos he, if_pos (Engine.held_eq_some.mpr he)]
      rfl
    · rw [if_neg he, if_neg (mt Engine.held_eq_some.mp he)]
  have hframe := endRecord_frame id x s
  simp only [State.roster, Roster.remove, endRecord_engine x h, endRecord_queue id x s r h, hheld,
    List.filter_map, congrArg State.mode hframe, congrArg State.nextId hframe]
  rfl

/-! ## Writes to one record -/

/-- Two writes to a record are one. -/
theorem State.modRecord_modRecord (s : State) (id : Nat) {f : TRecord → TRecord}
    (g : TRecord → TRecord) (hf : ∀ r, (f r).id = r.id) :
    (s.modRecord id f).modRecord id g = s.modRecord id (fun r => g (f r)) := by
  simp only [State.modRecord, List.map_map]
  congr 1
  refine List.map_congr_left fun r _ => ?_
  simp only [Function.comp_apply]
  split <;> simp_all

theorem State.record?_modRecord (s : State) (id : Nat) {f : TRecord → TRecord}
    (hf : ∀ r, (f r).id = r.id) : (s.modRecord id f).record? id = (s.record? id).map f := by
  have hids : (fun r : TRecord => r.id == id) ∘ (fun r => if r.id = id then f r else r)
      = fun r => r.id == id := by
    funext r
    simp only [Function.comp_apply]
    split <;> simp_all
  simp only [State.record?, State.modRecord, List.find?_map, hids]
  cases h : s.queue.find? (fun r => r.id == id) with
  | none => rfl
  | some r =>
    have hid : r.id = id := by simpa using List.find?_some h
    simp [hid]

theorem State.record?_id {s : State} {id : Nat} {r : TRecord} (h : s.record? id = some r) :
    r.id = id := by
  simpa using List.find?_some h

theorem State.mem_of_record? {s : State} {id : Nat} {r : TRecord} (h : s.record? id = some r) :
    r ∈ s.queue := List.mem_of_find?_eq_some h

/-- The granted record of an orderly queue is past QUEUED already, and shows no change of its stage
to another that is. -/
theorem State.roster_setStage {s : State} (h : s.QueueOrdered) {g : Stage} (hg : g ≠ .queued) :
    (s.setStage g).roster = s.roster := by
  rw [queueOrdered_iff] at h
  unfold State.setStage State.modGranted
  cases he : s.engine with
  | free => rfl
  | drive j => rfl
  | transition id =>
    obtain ⟨e, hmem, heid, hq⟩ := h.mem_of_held id (Engine.held_eq_some.mpr he)
    have hentries : (s.queue.map (fun r => if r.id = id then { r with stage := g } else r)).map
        TRecord.entry = s.queue.map TRecord.entry := by
      rw [List.map_map]
      refine List.map_congr_left fun r hr => ?_
      simp only [Function.comp_apply]
      split
      · next hrid =>
        have hsame : r.entry = e := List.inj_on_of_nodup_map h.ids_nodup
          (List.mem_map_of_mem hr) hmem (hrid.trans heid.symm)
        have hrq : r.entry.queued = false := hsame ▸ hq
        have hgq : ({ r with stage := g } : TRecord).entry.queued = false :=
          TRecord.entry_queued.mpr hg
        exact congrArg (fun b => QueueEntry.mk r.id r.station b r.flight.isSome) (hgq.trans hrq.symm)
      · rfl
    simp only [State.roster, State.modRecord, hentries, he]

/-! ## The grant (R72, R74) -/

/-- The engine holds the record with this id, which `g` has been written to. -/
def State.holding (id : Nat) (g : TRecord → TRecord) (s : State) : State :=
  { s.modRecord id g with engine := .transition id }

/-- R72: what a grant writes to a record. -/
def TRecord.granted (moves : List Move) (muteSet collateral : StationSet) (r : TRecord) : TRecord :=
  { r with
    flight := some (Flight.granted moves muteSet collateral)
    waitingConsent := false
    waitExpiry := none }

theorem grant_eq (id : Nat) (moves : List Move) (muteSet collateral : StationSet) (s : State) :
    s.grant id moves muteSet collateral
      = if moves.isEmpty then (s.holding id (TRecord.granted moves muteSet collateral)).enterProvingAtOnce
        else (s.holding id (TRecord.granted moves muteSet collateral)).enterMuting := rfl

section Holding
variable {s : State} {id : Nat} {g : TRecord → TRecord} (hg : ∀ r, (g r).id = r.id)
include hg

theorem State.holding_modGranted (f : TRecord → TRecord) :
    (s.holding id g).modGranted f = s.holding id (fun r => f (g r)) :=
  congrArg (fun u : State => { u with engine := .transition id }) (s.modRecord_modRecord id f hg)

theorem State.holding_flying {r : TRecord} {f : Flight} (hr : s.record? id = some r)
    (hf : (g r).flight = some f) : (s.holding id g).flying = some (g r, f) := by
  have hrecord : (s.holding id g).record? id = some (g r) :=
    (s.record?_modRecord id hg).trans (congrArg _ hr)
  unfold State.flying
  rw [show (s.holding id g).engine = .transition id from rfl]
  simp only [hrecord, Option.bind_some, hf, Option.map_some]

end Holding

/-- A record that is granted and enters a stage is granted in the roster. -/
theorem State.roster_holding (s : State) (id : Nat) {g : TRecord → TRecord}
    (hg : ∀ r, (g r).entry = ⟨r.id, r.station, false, true⟩) :
    (s.holding id g).roster = s.roster.grant id := by
  have hentries : (s.queue.map (fun r => if r.id = id then g r else r)).map TRecord.entry
      = (s.queue.map TRecord.entry).map (QueueEntry.grant id) := by
    simp only [List.map_map]
    refine List.map_congr_left fun r _ => ?_
    simp only [Function.comp_apply, QueueEntry.grant]
    by_cases hid : r.id = id
    · rw [if_pos hid, if_pos (show r.entry.id = id from hid), hg]
      rfl
    · rw [if_neg hid, if_neg (show r.entry.id ≠ id from hid)]
  simp only [State.roster, State.holding, State.modRecord, Roster.grant, hentries, Engine.held]

theorem TRecord.granted_staged_entry (moves : List Move) (muteSet collateral : StationSet)
    {g : Stage} (hg : g ≠ .queued) (r : TRecord) :
    ({ r.granted moves muteSet collateral with stage := g } : TRecord).entry
      = ⟨r.id, r.station, false, true⟩ := by
  simp [TRecord.entry, TRecord.granted, hg]

/-! ## The choice of an id (R56) -/

theorem nextIdAfter_range (c : Nat) : 1 ≤ nextIdAfter c ∧ nextIdAfter c ≤ 255 := by
  unfold nextIdAfter
  split <;> omega

theorem iterate_nextIdAfter {c : Nat} (hc : 1 ≤ c ∧ c ≤ 255) (i : Nat) :
    nextIdAfter^[i] c = (c - 1 + i) % 255 + 1 := by
  induction i with
  | zero =>
    rw [Function.iterate_zero_apply]
    omega
  | succ i ih =>
    rw [Function.iterate_succ_apply', ih]
    unfold nextIdAfter
    split <;> omega

/-- What is chosen is an id, and so is the counter behind it. -/
theorem chooseId_range (taken : List Nat) (fuel : Nat) {c : Nat} (hc : 1 ≤ c ∧ c ≤ 255) :
    (1 ≤ (chooseId taken fuel c).1 ∧ (chooseId taken fuel c).1 ≤ 255)
      ∧ 1 ≤ (chooseId taken fuel c).2 ∧ (chooseId taken fuel c).2 ≤ 255 := by
  induction fuel generalizing c with
  | zero => exact ⟨hc, nextIdAfter_range c⟩
  | succ fuel ih =>
    unfold chooseId
    split
    · exact ih (nextIdAfter_range c)
    · exact ⟨hc, nextIdAfter_range c⟩

/-- An id that is taken is chosen only when every value passed over is taken too. -/
theorem taken_of_chooseId_mem {taken : List Nat} {fuel c : Nat}
    (h : (chooseId taken fuel c).1 ∈ taken) : ∀ i ≤ fuel, nextIdAfter^[i] c ∈ taken := by
  induction fuel generalizing c with
  | zero =>
    intro i hi
    obtain rfl := Nat.le_zero.mp hi
    exact h
  | succ fuel ih =>
    unfold chooseId at h
    split at h
    · next hc =>
      intro i hi
      cases i with
      | zero => simpa using hc
      | succ i => exact ih h i (Nat.le_of_succ_le_succ hi)
    · next hc => exact absurd (by simpa using h) (by simpa using hc)

/-- R56: with as many turns as records a free id is found: the values looked at are one more than
those taken. -/
theorem chooseId_not_mem {taken : List Nat} {c : Nat} (hc : 1 ≤ c ∧ c ≤ 255)
    (hlen : taken.length < 255) : (chooseId taken taken.length c).1 ∉ taken := by
  intro h
  have hall := taken_of_chooseId_mem h
  have hnodup : ((List.range (taken.length + 1)).map (fun i => nextIdAfter^[i] c)).Nodup := by
    refine List.Nodup.map_on (fun i hi j hj hij => ?_) List.nodup_range
    simp only [iterate_nextIdAfter hc] at hij
    have hi := List.mem_range.mp hi
    have hj := List.mem_range.mp hj
    omega
  have hsub : (List.range (taken.length + 1)).map (fun i => nextIdAfter^[i] c) ⊆ taken := by
    intro v hv
    obtain ⟨i, hi, rfl⟩ := List.mem_map.mp hv
    exact hall i (Nat.le_of_lt_succ (List.mem_range.mp hi))
  have hle := (hnodup.subperm hsub).length_le
  simp at hle

theorem chooseId_of_free {taken : List Nat} {c : Nat} (h : c ∉ taken) (fuel : Nat) :
    chooseId taken fuel c = (c, nextIdAfter c) := by
  cases fuel <;> simp [chooseId, h]

end Sys2Proof.Machine
end

section
/-!
SUPPORT. Properties of the roster that the engine keeps. A property that reads the roster alone, and
that no stage past QUEUED and no end of a record breaks, is kept by every operation of the engine;
said here once, for any such property.
-/

namespace Sys2Proof.Machine

/-- The property reads of the part its roster alone, and the stages past QUEUED and the ends of records
keep it. -/
structure RosterInvariant (P : State → Prop) : Prop where
  congr : ∀ {s t : State}, P s → t.roster = s.roster → P t
  stage : ∀ {g : Stage}, g ≠ .queued → Keeps P (State.setStage g)
  ends : ∀ id x, Keeps P (State.endRecord id x)

namespace RosterInvariant
variable {P : State → Prop} (hP : RosterInvariant P)
include hP

theorem of_roster {f : State → State} (h : ∀ s, (f s).roster = s.roster) : Keeps P f :=
  fun s hs => hP.congr hs (h s)

/-! ## PROVING, SETTLING and ABORTING -/

theorem settleExpires : Keeps P State.settleExpires := by
  intro s h
  unfold State.settleExpires
  split
  · exact h
  · refine hP.congr ?_ ((State.roster_startProof _ _ _).trans (State.roster_releaseMute _))
    exact hP.stage (by decide) _ (hP.congr h (by simp))

theorem proofDone : Keeps P State.proofDone := by
  intro s h
  unfold State.proofDone
  split
  · exact h
  · exact hP.ends _ _ _ (hP.congr h (by simp))

theorem proofFails : Keeps P State.proofFails := by
  intro s h
  unfold State.proofFails
  split
  · exact h
  · exact hP.ends _ _ _ (hP.congr h (by simp))

theorem takeVerdict (st : Station) (passing : Bool) : Keeps P (State.takeVerdict st passing) := by
  intro s h
  unfold State.takeVerdict
  split
  · exact h
  · next r f _ =>
    split
    · dsimp only
      generalize (if passing then f.proofRun + 1 else 0) = run
      have hcounted := fun g => hP.congr h (s.roster_modFlight g)
      split
      · exact hcounted _
      · split
        · exact hP.proofDone _ (hcounted _)
        · exact hcounted _
    · exact h

theorem enterSettling : Keeps P State.enterSettling := by
  intro s h
  unfold State.enterSettling
  split
  · exact h
  · have hset := fun f => hP.stage (g := .settling) (by decide) _ (hP.congr h (s.roster_modFlight f))
    have hexpires : ∀ (settle : Nat) u, P u → P (if settle = 0 then u.settleExpires else u) :=
      fun settle u hu => by
        split
        · exact hP.settleExpires u hu
        · exact hu
    exact hexpires _ _ (hset _)

theorem endAborting : Keeps P State.endAborting := by
  intro s h
  unfold State.endAborting
  split
  · exact h
  · refine hP.ends _ _ _ (hP.congr h ?_)
    split <;> simp

theorem enterAborting (x : TResult) : Keeps P (State.enterAborting x) := by
  intro s h
  unfold State.enterAborting
  split
  · exact h
  · have hset := fun f => hP.stage (g := .aborting) (by decide) _ (hP.congr h (s.roster_modFlight f))
    dsimp only
    split
    · exact hP.endAborting _ (hset _)
    · exact hset _

/-! ## MOVING and MUTING -/

theorem orderStarts (fuel : Nat) : Keeps P (State.orderStarts fuel) := by
  induction fuel with
  | zero => exact fun s h => h
  | succ fuel ih =>
    intro s h
    unfold State.orderStarts
    split
    · exact h
    · split
      · split
        · exact h
        · next m _ =>
          have hd := hP.congr h (s.roster_driveStart m.contactor m.target)
          generalize s.driveStart m.contactor m.target = answered at hd ⊢
          obtain ⟨answer, u⟩ := answered
          cases answer with
          | started => exact ih _ (hP.congr hd (by simp))
          | withheld => exact hd
          | arrived =>
            dsimp only
            split
            · exact hP.enterSettling _ (hP.congr hd (by simp))
            · exact ih _ (hP.congr hd (by simp))
          | failed cause => exact hP.enterAborting _ _ (hP.congr hd (by simp))
      · exact h

theorem startMoves : Keeps P State.startMoves := hP.orderStarts _

theorem enterMoving : Keeps P State.enterMoving := fun _ h =>
  hP.startMoves _ (hP.stage (by decide) _ (hP.congr h (by simp)))

theorem examineCold : Keeps P State.examineCold := by
  intro s h
  unfold State.examineCold
  split
  · exact h
  · split
    · exact hP.enterMoving s h
    · exact h

theorem endMuting (x : TResult) : Keeps P (State.endMuting x) := by
  intro s h
  unfold State.endMuting
  split
  · exact h
  · exact hP.ends _ _ _ (hP.congr h (by simp))

theorem holdLimitReached : Keeps P State.holdLimitReached := by
  intro s h
  unfold State.holdLimitReached
  split
  · exact h
  · split
    · exact hP.endMuting _ s h
    · exact hP.enterAborting _ s h

/-- R72: a granted record enters PROVING or MUTING; the property has to hold of the roster in which it
is granted. -/
theorem grant {s : State} {id : Nat} {r : TRecord} (moves : List Move)
    (muteSet collateral : StationSet) (hr : s.record? id = some r)
    (hgranted : ∀ t : State, t.roster = s.roster.grant id → P t) :
    P (s.grant id moves muteSet collateral) := by
  have hflying := State.holding_flying (g := TRecord.granted moves muteSet collateral)
    (fun _ => rfl) hr rfl
  have hstaged : ∀ g : Stage, g ≠ .queued →
      P ((s.holding id (TRecord.granted moves muteSet collateral)).setStage g) := fun g hg => by
    refine hgranted _ ?_
    rw [State.setStage, State.holding_modGranted (g := TRecord.granted moves muteSet collateral)
      fun _ => rfl]
    exact s.roster_holding id (TRecord.granted_staged_entry moves muteSet collateral hg)
  rw [grant_eq]
  split
  · simp only [State.enterProvingAtOnce, hflying]
    exact hP.congr (hstaged .proving (by decide)) (by simp)
  · simp only [State.enterMuting, hflying]
    exact hP.examineCold _ (hP.congr (hstaged .muting (by decide)) (by simp))

/-! ## What reaches the job (R16, R86, R87, R92, R130, R81) -/

theorem reportArrival (k : Nat) : Keeps P (State.reportArrival k) := by
  intro s h
  unfold State.reportArrival
  split
  · exact h
  · split
    · exact h
    · split
      · have hcounted := fun f => hP.congr h (s.roster_modFlight f)
        dsimp only
        split
        · split
          · exact hP.enterSettling _ (hcounted _)
          · exact hP.startMoves _ (hcounted _)
        · split
          · exact hP.endAborting _ (hcounted _)
          · exact hcounted _
        · exact hcounted _
      · exact h
  · split
    · exact hP.congr h (by simp)
    · exact h

theorem reportFailure (k : Nat) : Keeps P (State.reportFailure k) := by
  intro s h
  unfold State.reportFailure
  split
  · exact h
  · split
    · exact h
    · split
      · have hcounted := fun f => hP.congr h (s.roster_modFlight f)
        dsimp only
        split
        · exact hP.enterAborting _ _ (hcounted _)
        · split
          · exact hP.endAborting _ (hcounted _)
          · exact hcounted _
        · exact hcounted _
      · exact h
  · split
    · exact hP.congr h (by simp)
    · exact h

theorem report (r : Option Report) : Keeps P (State.report r) := by
  intro s h
  unfold State.report
  split
  · exact h
  · exact hP.reportArrival _ s h
  · exact hP.reportFailure _ s h

theorem debounceExpires (k : Nat) : Keeps P (State.debounceExpires k) := by
  intro s h
  unfold State.debounceExpires
  dsimp only
  split
  · have hsensed := hP.congr h ((State.roster_senseReport (s.modContactor k Contactor.settleRaw) k
      (s.contactor k).raw).trans (s.roster_modContactor k _))
    exact hP.report _ _ hsensed
  · exact hP.congr h (by simp)

theorem travelLimitExpires (k : Nat) : Keeps P (State.travelLimitExpires k) := fun s h =>
  hP.report _ _ (hP.congr h (s.roster_travelExpires k))

theorem holdStops : Keeps P State.holdStops := by
  intro s h
  unfold State.holdStops
  split
  · exact h
  · split
    · exact h
    · split
      · exact hP.startMoves _ (hP.congr h (by simp))
      · exact h
  · exact hP.congr h (by simp)

/-! ## Cold states (R128 to R130) -/

theorem setCold (st : Station) (c : Cold) (dwell : Option Nat) :
    Keeps P (State.setCold st c dwell) := by
  have hchanged : Keeps P (State.coldChanged st) := by
    intro s h
    unfold State.coldChanged
    split
    · exact h
    · split
      · exact h
      · split
        · split
          · exact hP.examineCold s h
          · exact hP.startMoves _ (hP.congr h (by simp))
          · exact h
        · exact h
    · exact hP.congr h (by simp)
  intro s h
  unfold State.setCold
  dsimp only
  split
  · exact hP.congr h (by simp)
  · exact hchanged _ (hP.congr h (by simp))

theorem transmitterRecord (st : Station) (body : List Byte) :
    Keeps P (State.transmitterRecord st body) := by
  have hcold : Keeps P (State.coldReading st) := by
    intro s h
    unfold State.coldReading
    split <;> exact hP.setCold st _ _ s h
  have hreading : ∀ power, Keeps P (State.applyReading st power) := by
    intro power s h
    unfold State.applyReading
    split
    · exact hP.setCold st _ _ s h
    · split
      · exact hcold s h
      · exact hcold s h
      · exact h
      · exact h
  intro s h
  unfold State.transmitterRecord
  split
  · unfold State.takePowerReport
    split
    · exact hreading _ _ (hP.congr h (by simp))
    · exact h
  · exact hP.congr h (by simp)

theorem reportExpires (st : Station) : Keeps P (State.reportExpires st) := fun s h =>
  hP.congr (hP.setCold st .unknown none _ (hP.congr h (s.roster_modPermit st _)))
    (State.roster_raiseFault _ _ _)

/-! ## Sample sets (R112 to R114) -/

theorem monitorRecord (body : List Byte) : Keeps P (State.monitorRecord body) := by
  intro s h
  unfold State.monitorRecord
  split
  · unfold State.takeSampleSet
    split
    · exact h
    · split
      · exact h
      · split
        · split
          · exact hP.takeVerdict _ _ _ (hP.congr h (by simp))
          · exact hP.congr h (by simp)
        · exact hP.congr h rfl
  · exact hP.congr h (by simp)

/-! ## LOCAL (R67) -/

theorem endLocal (id : Nat) : Keeps P (State.endLocal id) := by
  intro s h
  unfold State.endLocal
  split
  · exact h
  · split
    · exact hP.ends _ _ s h
    · exact hP.endMuting _ s h
    · exact h

end RosterInvariant

theorem Keeps.foldl {α : Type} {P : State → Prop} {f : State → α → State}
    (hf : ∀ x, Keeps P (fun s => f s x)) (l : List α) : Keeps P (fun s => l.foldl f s) := by
  induction l with
  | nil => exact fun s h => h
  | cons x l ih => exact fun s h => ih _ (hf x s h)

end Sys2Proof.Machine
end

section
/-!
The statement that every step keeps the Transition Queue in order (R55 to R57, R68), by cases on the
command: the engine keeps it as it keeps any property of the roster; a grant, a new record and the
moves between the modes are what is left.
-/

namespace Sys2Proof.Machine

/-! ## Properties of the roster along the arbiter's run (R68, R71) -/

theorem RosterInvariant.and {P Q : State → Prop} (hP : RosterInvariant P) (hQ : RosterInvariant Q) :
    RosterInvariant (fun s => P s ∧ Q s) where
  congr := fun h he => ⟨hP.congr h.1 he, hQ.congr h.2 he⟩
  stage := fun hg s h => ⟨hP.stage hg s h.1, hQ.stage hg s h.2⟩
  ends := fun id x s h => ⟨hP.ends id x s h.1, hQ.ends id x s h.2⟩

/-- An examination that grants nothing keeps `P`; one that grants leads to `Q`, if `Q` holds of the
roster in which a QUEUED record of a part with `P` is granted. -/
theorem RosterInvariant.examine {P Q : State → Prop} (hP : RosterInvariant P)
    (hQ : RosterInvariant Q)
    (hgrant : ∀ s id r, P s → s.record? id = some r → r.stage = .queued →
      ∀ t : State, t.roster = s.roster.grant id → Q t)
    (id : Nat) {s : State} (h : P s) :
    if (s.examine id).2 then Q (s.examine id).1 else P (s.examine id).1 := by
  unfold State.examine
  split
  · exact h
  · next r hr =>
    split
    · next hq =>
      have hwaits : ∀ b, P (s.modRecord id (fun r => { r with waitingConsent := b })) := fun b =>
        hP.congr h (s.roster_modRecord id fun _ => rfl)
      split
      · exact hP.ends _ _ _ (hwaits false)
      · exact hwaits true
      · exact hQ.grant _ _ _ hr (hgrant s id r h hr hq)
    · exact h

theorem RosterInvariant.examineFrom {P Q : State → Prop} (hP : RosterInvariant P)
    (hQ : RosterInvariant Q)
    (hgrant : ∀ s id r, P s → s.record? id = some r → r.stage = .queued →
      ∀ t : State, t.roster = s.roster.grant id → Q t)
    (ids : List Nat) {s : State} (h : P s) :
    if (examineFrom ids s).2 then Q (examineFrom ids s).1 else P (examineFrom ids s).1 := by
  induction ids generalizing s with
  | nil => exact h
  | cons id ids ih =>
    have hexamined := hP.examine hQ hgrant id h
    unfold Machine.examineFrom
    generalize s.examine id = examined at hexamined ⊢
    obtain ⟨u, granted⟩ := examined
    cases granted with
    | true => exact hexamined
    | false => exact ih hexamined

/-! ## What keeps the order -/

theorem queueOrdered_rosterInvariant : RosterInvariant State.QueueOrdered where
  congr := fun {s t} h he => by
    rw [queueOrdered_iff] at h ⊢
    rwa [he]
  stage := fun hg s h => by
    have he := State.roster_setStage h hg
    rw [queueOrdered_iff] at h ⊢
    rwa [he]
  ends := fun id x s h => by
    cases hr : s.record? id with
    | none => rwa [endRecord_of_missing x hr]
    | some r =>
      rw [queueOrdered_iff] at h ⊢
      rw [State.roster_endRecord x hr]
      exact h.remove id

/-- The engine holds no record. -/
theorem held_none_rosterInvariant : RosterInvariant (fun s => s.roster.held = none) where
  congr := fun h he => (congrArg Roster.held he).trans h
  stage := fun hg s h => by
    unfold State.setStage State.modGranted
    split
    · next he => exact nomatch h.symm.trans (Engine.held_eq_some.mpr he)
    · exact h
  ends := fun id x s h => by
    cases hr : s.record? id with
    | none => rwa [endRecord_of_missing x hr]
    | some r =>
      rw [State.roster_endRecord x hr]
      simp [Roster.remove, h]

theorem queueOrdered_arbiterRuns (fuel : Nat) :
    Keeps State.QueueOrdered (State.arbiterRuns fuel) := by
  induction fuel with
  | zero => exact fun s h => h
  | succ fuel ih =>
    intro s h
    unfold State.arbiterRuns
    split
    · next hruns =>
      have hheld : s.roster.held = none := congrArg Engine.held hruns.2.1
      have hrun := (queueOrdered_rosterInvariant.and held_none_rosterInvariant).examineFrom
        queueOrdered_rosterInvariant (s := s) (fun u id r hu hr _ t ht => by
          rw [queueOrdered_iff, ht]
          exact ((queueOrdered_iff u).mp hu.1).grant hu.2
            ⟨r.entry, List.mem_map_of_mem (State.mem_of_record? hr), State.record?_id hr⟩)
        s.queuedIds ⟨h, hheld⟩
      generalize examineFrom s.queuedIds s = run at hrun ⊢
      obtain ⟨u, granted⟩ := run
      cases granted with
      | true => exact ih u hrun
      | false => exact hrun.1
    · exact h

theorem queueOrdered_arbiter : Keeps State.QueueOrdered State.arbiter :=
  fun s => queueOrdered_arbiterRuns (s.queue.length + 1) s

theorem queueOrdered_thenArbiter {f : State → State} (hf : Keeps State.QueueOrdered f) :
    Keeps State.QueueOrdered (State.thenArbiter f) := Keeps.thenArbiter queueOrdered_arbiter hf

theorem queueOrdered_of_roster {f : State → State} (hf : ∀ s, (f s).roster = s.roster) :
    Keeps State.QueueOrdered f := queueOrdered_rosterInvariant.of_roster hf

/-! ## A new record (R61) -/

theorem State.queuedOf_eq_none {s : State} {p : Station} (h : s.queuedOf p = none) :
    ∀ r ∈ s.queue, r.stage = .queued → r.station ≠ p := by
  intro r hr hq hp
  exact List.find?_eq_none.mp h r hr (by simp [hp, hq])

theorem State.queuedOf_eq_some {s : State} {p : Station} {old : TRecord}
    (h : s.queuedOf p = some old) : old ∈ s.queue ∧ old.station = p ∧ old.stage = .queued := by
  have hspec : old.station = p ∧ old.stage = .queued := by simpa using List.find?_some h
  exact ⟨List.mem_of_find?_eq_some h, hspec⟩

/-- R57: a station has one QUEUED record at most. -/
theorem State.QueueOrdered.queued_unique {s : State} (h : s.QueueOrdered) {r q : TRecord}
    (hr : r ∈ s.queue) (hq : q ∈ s.queue) (hrq : r.stage = .queued) (hqq : q.stage = .queued)
    (hst : r.station = q.station) : r = q := by
  obtain ⟨-, -, -, hstations, -⟩ := h
  exact List.inj_on_of_nodup_map hstations (List.mem_filter.mpr ⟨hr, by simp [hrq]⟩)
    (List.mem_filter.mpr ⟨hq, by simp [hqq]⟩) hst

/-- In an orderly queue a record is found by its id. -/
theorem State.record?_of_mem {s : State} (h : (s.queue.map TRecord.id).Nodup) {r : TRecord}
    (hr : r ∈ s.queue) : s.record? r.id = some r := by
  cases hfound : s.record? r.id with
  | none => exact absurd (List.find?_eq_none.mp hfound r hr) (by simp)
  | some q =>
    rw [List.inj_on_of_nodup_map h (State.mem_of_record? hfound) hr (State.record?_id hfound)]

theorem State.supersede_none_left {s : State} (h : s.QueueOrdered) (p : Station) :
    ∀ r ∈ (s.supersede p).queue, r.stage = .queued → r.station ≠ p := by
  unfold State.supersede
  cases hold : s.queuedOf p with
  | none => exact State.queuedOf_eq_none hold
  | some old =>
    obtain ⟨hmem, hst, hqueued⟩ := State.queuedOf_eq_some hold
    have hqueue := endRecord_queue old.id .superseded s old (State.record?_of_mem h.1 hmem)
    intro r hr hq hp
    obtain ⟨hr, hne⟩ := List.mem_filter.mp (hqueue ▸ hr)
    rw [h.queued_unique hr hmem hq hqueued (hp.trans hst.symm)] at hne
    simp at hne

theorem queueOrdered_supersede (p : Station) : Keeps State.QueueOrdered (State.supersede p) := by
  intro s h
  unfold State.supersede
  split
  · exact h
  · exact queueOrdered_rosterInvariant.ends _ _ s h

theorem State.QueueOrdered.length_le {s : State} (h : s.QueueOrdered) : s.queue.length ≤ 4 := by
  have hle := ((queueOrdered_iff s).mp h).length_le
  simpa [State.roster] using hle

/-- R56: the id of a new record, and the counter behind it. -/
def State.newId (s : State) : Nat × Nat :=
  chooseId (s.queue.map TRecord.id) s.queue.length s.nextId

/-- R61: the part behind the superseded record, with the new one at the tail. -/
theorem enqueue_eq (p : Station) (tag : Byte) (slot : Fin 4) (allow : Byte) (wait : Half)
    (s : State) : s.enqueue p tag slot allow wait
      = ({ s.supersede p with
          nextId := (s.supersede p).newId.2
          queue := (s.supersede p).queue
            ++ [(s.supersede p).newRecord p slot allow wait (s.supersede p).newId.1] }).reply p
        .request tag .accepted (byte1 (s.supersede p).newId.1) := rfl

/-- The id of a new record is in range and free, and so is the counter in range. -/
theorem State.QueueOrdered.newId {s : State} (h : s.QueueOrdered) :
    (1 ≤ s.newId.1 ∧ s.newId.1 ≤ 255) ∧ (1 ≤ s.newId.2 ∧ s.newId.2 ≤ 255)
      ∧ s.newId.1 ∉ s.queue.map TRecord.id := by
  have hlen := h.length_le
  obtain ⟨-, -, hnext, -⟩ := h
  have hfree := chooseId_not_mem (taken := s.queue.map TRecord.id) hnext (by
    rw [List.length_map]
    omega)
  rw [List.length_map] at hfree
  obtain ⟨hid, hcounter⟩ := chooseId_range (s.queue.map TRecord.id) s.queue.length hnext
  exact ⟨hid, hcounter, hfree⟩

theorem queueOrdered_enqueue (p : Station) (tag : Byte) (slot : Fin 4) (allow : Byte) (wait : Half)
    {s : State} (h : s.QueueOrdered) (hmode : s.mode = .run) :
    (s.enqueue p tag slot allow wait).QueueOrdered := by
  have hrest := queueOrdered_supersede p s h
  have hnone := State.supersede_none_left h p
  have hmode' : (s.supersede p).mode = .run := by
    unfold State.supersede
    split
    · exact hmode
    · rw [endRecord_frame]
      exact hmode
  obtain ⟨hid, hcounter, hfree⟩ := hrest.newId
  have hroster : (s.enqueue p tag slot allow wait).roster
      = (s.supersede p).roster.append (s.supersede p).newId.1 (s.supersede p).newId.2 p := by
    rw [enqueue_eq]
    simp only [State.roster, Roster.append, State.reply_queue, List.map_append]
    rfl
  rw [queueOrdered_iff] at hrest ⊢
  rw [hroster]
  refine hrest.append hmode' hid ?_ hcounter ?_
  · rw [State.roster, List.map_map]
    exact hfree
  · intro e he hq
    obtain ⟨r, hr, rfl⟩ := List.mem_map.mp he
    exact hnone r hr (by simpa [TRecord.entry] using hq)

/-! ## The commands that reach the queue -/

theorem queueOrdered_modPort (p : Station) (g : Port → Port) :
    Keeps State.QueueOrdered (State.modPort p g) :=
  queueOrdered_of_roster fun s => s.roster_modPort p g

/-- REQUEST, which makes a record in RUN only. -/
theorem queueOrdered_request (p : Station) (tag slot allow : Byte) (wait : Half) :
    Keeps State.QueueOrdered
      (State.inRun p .request tag (State.request p tag slot allow wait)) := by
  intro s h
  have hreply := fun code => queueOrdered_modPort p
    (Port.answered (replyKind .request) tag code []) s h
  unfold State.inRun
  split
  · exact hreply _
  · next hmode =>
    have hmode : s.mode = .run := by
      cases hm : s.mode with
      | config => exact absurd hm hmode
      | run => rfl
    split
    · exact hreply _
    · split
      · exact hreply _
      · unfold State.request
        split
        · exact hreply _
        · split
          · exact hreply _
          · split
            · exact hreply _
            · split
              · exact hreply _
              · exact queueOrdered_arbiter _ (queueOrdered_enqueue p tag _ allow wait h hmode)

theorem queueOrdered_cancel (p : Station) (tag id : Byte) :
    Keeps State.QueueOrdered (State.cancel p tag id) := by
  intro s h
  have hreply := fun code => queueOrdered_modPort p
    (Port.answered (replyKind .cancel) tag code []) s h
  unfold State.cancel
  split
  · exact hreply _
  · split
    · exact hreply _
    · split
      · exact queueOrdered_rosterInvariant.ends _ _ _ (hreply _)
      · exact queueOrdered_thenArbiter (queueOrdered_rosterInvariant.endMuting _) _ (hreply _)
      · exact hreply _

theorem queueOrdered_consent (p : Station) (tag value : Byte) :
    Keeps State.QueueOrdered (State.consent p tag value) := by
  intro s h
  unfold State.consent
  split
  · exact h
  · split
    · exact h
    · exact queueOrdered_arbiter _ h

/-- DRIVE, which gives a job to an engine that holds no record, in CONFIG. -/
theorem queueOrdered_drive (p : Station) (tag : Byte) (banks : Half) (positions : List Byte) :
    Keeps State.QueueOrdered (State.inConfig p .drive tag (State.drive p tag banks positions)) := by
  intro s h
  unfold State.inConfig
  split
  · exact h
  · next hmode =>
    have hmode : s.mode = .config := by
      cases hm : s.mode with
      | config => rfl
      | run => exact absurd hm hmode
    have hheld : s.engine.held = none := (((queueOrdered_iff s).mp h).config_silent hmode).2
    unfold State.drive
    split
    · exact h
    · split
      · exact h
      · split
        · exact h
        · split
          · exact h
          · refine queueOrdered_rosterInvariant.congr h ((State.roster_stepDrive _).trans ?_)
            simp only [State.roster, State.reply_mode, State.reply_nextId, State.reply_queue, hheld]
            rfl

/-- LOCK leads to RUN with the queue as it was. -/
theorem queueOrdered_lock (p : Station) (tag : Byte) :
    Keeps State.QueueOrdered (State.lock p tag) := by
  intro s h
  have hrun : State.QueueOrdered { s with mode := .run } := by
    obtain ⟨h1, h2, h3, h4, h5, h6, h7, -⟩ := h
    exact ⟨h1, h2, h3, h4, h5, h6, h7, nofun⟩
  unfold State.lock
  split
  · exact h
  · split
    · exact h
    · have hentered : State.QueueOrdered s.enterRun := queueOrdered_arbiter _
        (queueOrdered_rosterInvariant.congr hrun
          ((State.roster_recomputeAll _ _).trans (State.roster_recogniseAll _)))
      exact hentered

/-! ## The lines (R41, R42, R159) -/

/-- An empty queue and an engine that holds no record are in order. -/
theorem queueOrdered_of_empty {s : State} (hqueue : s.queue = []) (hheld : s.engine.held = none)
    (hnext : s.nextId = 1) : s.QueueOrdered := by
  rw [queueOrdered_iff]
  have hentries : s.roster.entries = [] := by simp [State.roster, hqueue]
  have hnone : s.roster.held = none := hheld
  have hcounter : s.roster.nextId = 1 := hnext
  constructor <;> simp [hentries, hnone, hcounter]

theorem queueOrdered_held (s : State) : s.held.QueueOrdered := queueOrdered_of_empty rfl rfl rfl

theorem queueOrdered_powerUp (high : Bool) (s : State) : (s.powerUp high).QueueOrdered :=
  queueOrdered_rosterInvariant.congr (queueOrdered_held s)
    ((State.roster_recomputeAll _ _).trans (State.roster_permitZero _))

theorem queueOrdered_restarted (s : State) : s.restarted.QueueOrdered := by
  have hblocks : s.restartBlocks.roster = ⟨s.mode, none, 1, []⟩ := State.roster_permitZero _
  have hordered : s.restartBlocks.QueueOrdered := queueOrdered_of_empty
    (List.map_eq_nil_iff.mp (congrArg Roster.entries hblocks)) (congrArg Roster.held hblocks)
    (congrArg Roster.nextId hblocks)
  have hderived : (if s.restartBlocks.scanReady then s.restartBlocks.deriveAll
      else s.restartBlocks).roster = s.restartBlocks.roster := by
    split
    · exact State.roster_deriveList _ _
    · rfl
  unfold State.restarted
  dsimp only
  generalize (if s.restartBlocks.scanReady then s.restartBlocks.deriveAll
    else s.restartBlocks) = u at hderived ⊢
  refine queueOrdered_rosterInvariant.congr hordered ((State.roster_recomputeAll _ _).trans ?_)
  split
  · exact (State.roster_recogniseAll _).trans hderived
  · exact hderived

theorem queueOrdered_enterLocal (st : Station) :
    Keeps State.QueueOrdered (State.enterLocal st) := by
  have hended : Keeps State.QueueOrdered (State.endLocalRecords st) := fun s =>
    queueOrdered_thenArbiter (f := fun s => (s.idsOf st).foldl (fun s id => s.endLocal id) s)
      (fun u => Keeps.foldl queueOrdered_rosterInvariant.endLocal (u.idsOf st) u) s
  intro s h
  unfold State.enterLocal
  dsimp only
  split
  · exact hended (s.modPort st _) h
  · exact h

/-! ## The statement -/

theorem queueOrdered_onExpiry {f : State → State} (hf : Keeps State.QueueOrdered f)
    (expiry : Option Nat) : Keeps State.QueueOrdered (State.onExpiry expiry f) :=
  Keeps.onExpiry (fun t => queueOrdered_of_roster fun s => s.roster_advanceTo t) hf expiry

theorem queueOrdered_received (link : Link) (body : List Byte) {f : State → State}
    (hf : Keeps State.QueueOrdered f) : Keeps State.QueueOrdered (State.received link body f) :=
  Keeps.received (queueOrdered_of_roster fun s => s.roster_setCollecting link false)
    (queueOrdered_of_roster fun s => s.roster_discardRecord link) body hf

theorem queueOrdered_command (p : Station) (k : CmdKind) (tag : Byte) (i : Instr)
    {own : State → State} (hown : Keeps State.QueueOrdered own) :
    Keeps State.QueueOrdered (State.command p k tag i own) :=
  Keeps.command queueOrdered_modPort p k tag i hown

theorem queueOrdered_runCommand (p : Station) (k : CmdKind) (tag : Byte) (i : Instr)
    {own : State → State} (hown : Keeps State.QueueOrdered own) :
    Keeps State.QueueOrdered (State.command p k tag i (State.inRun p k tag own)) :=
  queueOrdered_command p k tag i (Keeps.inRun queueOrdered_modPort p k tag hown)

theorem queueOrdered_configCommand (p : Station) (k : CmdKind) (tag : Byte) (i : Instr)
    {own : State → State} (hown : Keeps State.QueueOrdered own) :
    Keeps State.QueueOrdered (State.command p k tag i (State.inConfig p k tag own)) :=
  queueOrdered_command p k tag i (Keeps.inConfig queueOrdered_modPort p k tag hown)

theorem queueOrdered_countedCommand (p : Station) (k : CmdKind) (tag : Byte) (i : Instr) (ok : Bool)
    {own : State → State} (hown : Keeps State.QueueOrdered own) :
    Keeps State.QueueOrdered (State.countedCommand p k tag i ok (State.inConfig p k tag own)) :=
  Keeps.countedCommand queueOrdered_modPort p k tag i ok
    (Keeps.inConfig queueOrdered_modPort p k tag hown)

theorem queueOrdered_withSlot (p : Station) (k : CmdKind) (tag station slot : Byte) (bad : List Byte)
    {own : Station → Fin 4 → State → State} (hown : ∀ st n s, (own st n s).roster = s.roster) :
    Keeps State.QueueOrdered (State.withSlot p k tag station slot bad own) :=
  Keeps.withSlot queueOrdered_modPort p k tag station slot bad
    fun st n => queueOrdered_of_roster (hown st n)

/-- Every command keeps the queue in order. -/
theorem exec_keeps_queueOrdered (i : Instr) (s : State) (h : s.QueueOrdered) :
    ∃ t, exec i s = .next t ∧ t.QueueOrdered := by
  have hQ := queueOrdered_rosterInvariant
  cases i with
  | powerOnReset high => exact ⟨_, rfl, queueOrdered_powerUp high s⟩
  | porAsserted => exact ⟨_, rfl, queueOrdered_held s⟩
  | restart =>
    refine ⟨_, rfl, ?_⟩
    split
    · exact h
    · split
      · exact h
      · exact queueOrdered_restarted _
  | restartLineRelease => exact ⟨_, rfl, h⟩
  | localAssert st =>
    refine ⟨_, rfl, ?_⟩
    split
    · exact h
    · dsimp only
      split
      · exact h
      · exact queueOrdered_enterLocal st _ h
  | localRelease st => exact ⟨_, rfl, h⟩
  | holdAssert =>
    refine ⟨_, rfl, ?_⟩
    split
    · exact h
    · split
      · exact h
      · exact hQ.congr (s := { s with hold := true }) h (State.roster_holdStarts _)
  | holdRelease =>
    refine ⟨_, rfl, ?_⟩
    split
    · exact h
    · split
      · exact h
      · exact queueOrdered_arbiter _ (hQ.holdStops { s with hold := false } h)
  | senseEvent k =>
    exact ⟨_, rfl, queueOrdered_onExpiry (queueOrdered_thenArbiter (hQ.debounceExpires k.val)) _ s h⟩
  | firstValueDeadline =>
    refine ⟨_, rfl, queueOrdered_onExpiry (queueOrdered_of_roster fun u => ?_) _ s h⟩
    exact State.roster_checkScanReady _
  | travelLimitExpiry k =>
    exact ⟨_, rfl, queueOrdered_onExpiry (queueOrdered_thenArbiter
      (hQ.travelLimitExpires k.val)) _ s h⟩
  | driveJobStartsClosed cause =>
    exact ⟨_, rfl, queueOrdered_onExpiry (queueOrdered_thenArbiter
      (queueOrdered_of_roster fun u => u.roster_closeStarts cause)) _ s h⟩
  | muteTimerExpiry =>
    exact ⟨_, rfl, queueOrdered_onExpiry (queueOrdered_thenArbiter (hQ.endMuting _)) _ s h⟩
  | holdLimitReached =>
    exact ⟨_, rfl, queueOrdered_onExpiry (queueOrdered_thenArbiter hQ.holdLimitReached) _ s h⟩
  | hotPauseLimitReached =>
    exact ⟨_, rfl, queueOrdered_onExpiry (queueOrdered_thenArbiter (hQ.enterAborting _)) _ s h⟩
  | settleTimerExpiry => exact ⟨_, rfl, queueOrdered_onExpiry hQ.settleExpires _ s h⟩
  | proofTimerExpiry =>
    exact ⟨_, rfl, queueOrdered_onExpiry (queueOrdered_thenArbiter hQ.proofFails) _ s h⟩
  | waitLimitExpiry id => exact ⟨_, rfl, queueOrdered_onExpiry (hQ.ends id _) _ s h⟩
  | monitorTimerExpiry st =>
    exact ⟨_, rfl, queueOrdered_onExpiry
      (queueOrdered_of_roster fun u => u.roster_monitorExpires st) _ s h⟩
  | coldDwellExpiry st =>
    exact ⟨_, rfl, queueOrdered_onExpiry (queueOrdered_thenArbiter (hQ.setCold st .cold none)) _ s h⟩
  | reportTimeoutExpiry st =>
    exact ⟨_, rfl, queueOrdered_onExpiry (queueOrdered_thenArbiter (hQ.reportExpires st)) _ s h⟩
  | rampTick st =>
    exact ⟨_, rfl, queueOrdered_onExpiry (queueOrdered_of_roster fun u => u.roster_tickRamp st) _ s h⟩
  | portRecordReceived p body =>
    exact ⟨_, rfl, Keeps.running (queueOrdered_received _ body (queueOrdered_modPort p _)) s h⟩
  | sampleSet body =>
    exact ⟨_, rfl, Keeps.running (queueOrdered_received _ body (queueOrdered_thenArbiter
      (hQ.monitorRecord body))) s h⟩
  | powerReport st body =>
    exact ⟨_, rfl, Keeps.running (queueOrdered_received _ body (queueOrdered_thenArbiter
      (hQ.transmitterRecord st body))) s h⟩
  | discardedRecord link cause =>
    exact ⟨_, rfl, Keeps.running (queueOrdered_of_roster fun u => u.roster_discardRecord link) s h⟩
  | interbyteTimeout link =>
    refine ⟨_, rfl, Keeps.running (queueOrdered_of_roster fun u => ?_) s h⟩
    split
    · exact u.roster_discardRecord link
    · rfl
  | transmitComplete p => exact ⟨_, rfl, Keeps.running (queueOrdered_modPort p _) s h⟩
  | permitTransmitComplete st =>
    exact ⟨_, rfl, Keeps.running (queueOrdered_of_roster fun u => u.roster_modTransmitter st _) s h⟩
  | startByte link =>
    exact ⟨_, rfl, Keeps.running
      (queueOrdered_of_roster fun u => u.roster_setCollecting link true) s h⟩
  | loadSite p tag cPresent strokeWidth holdLimit muteTimeout =>
    exact ⟨_, rfl, queueOrdered_configCommand p _ tag _
      (queueOrdered_of_roster fun u => u.roster_loadSite p tag _ _ _ _) s h⟩
  | loadStation p tag =>
    exact ⟨_, rfl, queueOrdered_configCommand p _ tag _
      (queueOrdered_of_roster fun u => u.roster_loadStation p tag _ _ _ _ _ _ _ _) s h⟩
  | loadMap p tag first count entries =>
    exact ⟨_, rfl, queueOrdered_countedCommand p _ tag _ _
      (queueOrdered_of_roster fun u => u.roster_loadMap p tag first count entries) s h⟩
  | loadPattern p tag =>
    exact ⟨_, rfl, queueOrdered_countedCommand p _ tag _ _ (queueOrdered_withSlot p _ tag _ _ _
      fun st n u => u.roster_loadPattern p tag _ _ _ st n) s h⟩
  | loadPositions p tag =>
    exact ⟨_, rfl, queueOrdered_countedCommand p _ tag _ _ (queueOrdered_withSlot p _ tag _ _ _
      fun st n u => u.roster_loadPositions p tag _ _ st n) s h⟩
  | clearSlot p tag =>
    exact ⟨_, rfl, queueOrdered_configCommand p _ tag _ (queueOrdered_withSlot p _ tag _ _ _
      fun st n u => u.roster_clearSlot p tag st n) s h⟩
  | drive p tag banks positions =>
    exact ⟨_, rfl, Keeps.countedCommand queueOrdered_modPort p _ tag _ _
      (queueOrdered_drive p tag banks positions) s h⟩
  | lock p tag =>
    exact ⟨_, rfl, queueOrdered_configCommand p _ tag _ (queueOrdered_lock p tag) s h⟩
  | request p tag slot allow wait =>
    exact ⟨_, rfl, queueOrdered_command p _ tag _ (queueOrdered_request p tag slot allow wait) s h⟩
  | cancel p tag id =>
    exact ⟨_, rfl, queueOrdered_runCommand p _ tag _ (queueOrdered_cancel p tag id) s h⟩
  | consent p tag value =>
    exact ⟨_, rfl, queueOrdered_runCommand p _ tag _ (queueOrdered_consent p tag value) s h⟩
  | limit p tag value =>
    exact ⟨_, rfl, queueOrdered_runCommand p _ tag _
      (queueOrdered_of_roster fun u => u.roster_limit p tag value) s h⟩
  | sync p tag =>
    exact ⟨_, rfl, queueOrdered_runCommand p _ tag _
      (queueOrdered_of_roster fun u => u.roster_sync p tag) s h⟩
  | status p tag =>
    exact ⟨_, rfl, queueOrdered_command p _ tag _
      (queueOrdered_of_roster (f := State.status p tag) fun _ => rfl) s h⟩
  | readContactors p tag first count =>
    exact ⟨_, rfl, queueOrdered_command p _ tag _
      (queueOrdered_of_roster fun u => u.roster_readContactors p tag first count) s h⟩
  | readPattern p tag =>
    exact ⟨_, rfl, queueOrdered_command p _ tag _ (queueOrdered_withSlot p _ tag _ _ _
      (own := State.readPattern p tag) fun _ _ _ => rfl) s h⟩
  | readTowers p tag station =>
    exact ⟨_, rfl, queueOrdered_command p _ tag _
      (queueOrdered_of_roster fun u => u.roster_readTowers p tag station) s h⟩
  | readQueue p tag =>
    exact ⟨_, rfl, queueOrdered_command p _ tag _
      (queueOrdered_of_roster (f := State.readQueue p tag) fun _ => rfl) s h⟩
  | readFaults p tag =>
    exact ⟨_, rfl, queueOrdered_command p _ tag _
      (queueOrdered_of_roster (f := State.readFaults p tag) fun _ => rfl) s h⟩
  | readClipLog p tag station =>
    exact ⟨_, rfl, queueOrdered_command p _ tag _
      (queueOrdered_of_roster fun u => u.roster_readClipLog p tag station) s h⟩
  | clearClipLog p tag mask =>
    exact ⟨_, rfl, queueOrdered_command p _ tag _
      (queueOrdered_of_roster fun u => u.roster_clearClipLog p tag mask) s h⟩
  | clearFault p tag index =>
    exact ⟨_, rfl, queueOrdered_command p _ tag _
      (queueOrdered_of_roster fun u => u.roster_clearFault p tag index) s h⟩
  | resume p tag =>
    exact ⟨_, rfl, queueOrdered_command p _ tag _
      (queueOrdered_of_roster fun u => u.roster_resume p tag) s h⟩
  | reclaim p tag =>
    exact ⟨_, rfl, queueOrdered_command p _ tag _
      (queueOrdered_of_roster fun u => u.roster_reclaim p tag) s h⟩
  | illegal p body =>
    refine ⟨_, rfl, ?_⟩
    split
    · split
      · exact h
      · exact Keeps.queueRecord queueOrdered_modPort p body s h
    · exact Keeps.submit queueOrdered_modPort p body
        (Keeps.illegalEffect queueOrdered_modPort p body) s h
  | rawSenseChange k v =>
    refine ⟨_, rfl, hQ.congr h ?_⟩
    split <;> rfl

/-- Settles O57, by cases on the step and on its command. -/
theorem stepKeepsQueueOrdered : Obligations.StepKeepsQueueOrdered := by
  intro s t h hstep
  rcases step_cases hstep with ⟨i, u, hexec, hu⟩ | rfl
  · have hordered : u.QueueOrdered := by
      rw [hu]
      exact h
    obtain ⟨t', ht', hkept⟩ := exec_keeps_queueOrdered i u hordered
    obtain rfl : t' = t := Host.Outcome.next.inj (ht'.symm.trans hexec)
    exact hkept
  · refine queueOrdered_rosterInvariant.congr h ?_
    unfold State.tick
    split <;> rfl

end Sys2Proof.Machine
end

section
/-!
SUPPORT. What the end of a record makes known on its port: TRANSITION ENDED, and the reply to a SYNC
that waited for it (R55, R157).
-/

namespace Sys2Proof.Machine

theorem Port.beginSending_executing (q : Port) : q.beginSending.executing = q.executing := by
  unfold Port.beginSending
  split
  case h_5 => split <;> rfl
  all_goals rfl

@[simp] theorem Port.handed_executing (n : Notice) (q : Port) :
    (q.handed n).executing = q.executing := by
  have hqueued : (q.queueNotice n).executing = q.executing := by
    unfold Port.queueNotice
    split <;> rfl
  exact (Port.beginSending_executing _).trans hqueued

@[simp] theorem Port.answered_executing (kind tag : Byte) (code : ResultCode) (fields : List Byte)
    (q : Port) : (q.answered kind tag code fields).executing = q.executing :=
  Port.beginSending_executing _

/-! ## A SYNC that waits (R157) -/

theorem syncLeft_of_idle {s : State} {p : Station} (id : Nat) (h : (s.port p).executing = none) :
    s.syncLeft p id = s := by
  simp only [State.syncLeft, h]

theorem syncLeft_of_last {s : State} {p : Station} {id : Nat} {w : SyncWait}
    (h : (s.port p).executing = some w) (hw : w.ids = [id]) :
    s.syncLeft p id
      = (s.modPort p (fun q => { q with executing := none })).reply p .sync w.tag .ok [] := by
  simp [State.syncLeft, h, hw]

theorem syncLeft_port_of_ne {p q : Station} (id : Nat) (s : State) (h : q ≠ p) :
    (s.syncLeft p id).port q = s.port q := by
  unfold State.syncLeft
  split
  · rfl
  · split
    · split <;> simp [State.reply_port, h]
    · rfl

/-! ## The end of a record (R55) -/

/-- The end of a record that the engine does not hold. -/
theorem endRecord_of_not_held {s : State} {id : Nat} {r : TRecord} (x : TResult)
    (hr : s.record? id = some r) (he : s.engine ≠ .transition id) :
    s.endRecord id x = ({ s with queue := s.queue.filter (fun q => q.id != id) }.notify r.station
      (.transitionEnded id x)).syncLeft r.station id := by
  have he' : (s.notify r.station (.transitionEnded id x)).engine ≠ .transition id := he
  simp only [State.endRecord, hr, if_neg he']
  rfl

/-- The end of a record that the engine holds. -/
theorem endRecord_of_held {s : State} {id : Nat} {r : TRecord} (x : TResult)
    (hr : s.record? id = some r) (he : s.engine = .transition id) :
    s.endRecord id x = ({ s with
        queue := s.queue.filter (fun q => q.id != id), engine := .free }.notify r.station
      (.transitionEnded id x)).syncLeft r.station id := by
  have he' : (s.notify r.station (.transitionEnded id x)).engine = .transition id := he
  simp only [State.endRecord, hr, if_pos he']
  rfl

/-- No SYNC waits on the port a notice is handed to. -/
theorem syncLeft_notify_of_idle {s : State} {p : Station} (id : Nat) (n : Notice)
    (h : (s.port p).executing = none) : (s.notify p n).syncLeft p id = s.notify p n :=
  syncLeft_of_idle id (by rw [State.notify_port, if_pos rfl, Port.handed_executing, h])

end Sys2Proof.Machine
end

section
/-!
The statements about the operating commands and the wait limit: the end of a QUEUED record by its wait
limit (R64), CONSENT and LIMIT (R65, R136), REQUEST (R58 to R61).
-/

namespace Sys2Proof.Machine

/-! ## The wait limit (R64) -/

theorem exec_waitLimitExpiry {s : State} {r : TRecord} {e : Nat} (hp : s.por = false)
    (hr : s.record? r.id = some r) (hq : r.stage = .queued) (he : r.waitExpiry = some e)
    (hfree : s.engine ≠ .transition r.id) :
    exec (.waitLimitExpiry r.id) s
      = .next (({ s with
          time := max s.time e, queue := s.queue.filter (fun q => q.id != r.id) }.notify r.station
        (.transitionEnded r.id .expired)).syncLeft r.station r.id) := by
  have hexpiry : s.waitExpiryOf r.id = some e := by
    simp [State.waitExpiryOf, hr, hq, he]
  simp only [exec, execWaitLimitExpiry, hexpiry, onExpiry_of_running _ hp]
  rw [endRecord_of_not_held (s := s.advanceTo e) .expired hr hfree]
  rfl

/-- Settles O23: the end of a record the engine does not hold, and the SYNC behind it. -/
theorem waitLimitEndsTheRecord : Obligations.WaitLimitEndsTheRecord := by
  intro s r e hp hr hq he hfree
  refine ⟨_, exec_waitLimitExpiry hp hr hq he hfree, ?_, fun q hne => ?_, fun hidle => ?_,
    fun w hw hids => ?_⟩
  · rw [syncLeft_frame]
    rfl
  · rw [syncLeft_port_of_ne _ _ hne, State.notify_port, if_neg hne]
    rfl
  · refine (congrArg (State.port · r.station) (syncLeft_notify_of_idle _ _ ?_)).trans ?_
    · exact hidle
    · rw [State.notify_port, if_pos rfl]
      rfl
  · rw [syncLeft_of_last (w := w) (by rw [State.notify_port, if_pos rfl, Port.handed_executing]
                                      exact hw) hids,
      State.reply_port, if_pos rfl, State.modPort_port_same, State.notify_port, if_pos rfl]
    rfl

/-! ## CONSENT (R65) -/

/-- An operating command that is taken in RUN for a present station goes to its own effect. -/
theorem runCommand_of_takes {s : State} {p : Station} {k : CmdKind} {tag : Byte} {i : Instr}
    (own : State → State) (h : s.takes p i) (hmode : s.mode = .run)
    (hpresent : (s.station p).present = true) :
    s.command p k tag i (State.inRun p k tag own) = own (s.begun p) := by
  rw [command_of_takes _ h, inRun_of_run (s := s.begun p) own hmode _ hpresent]
  rw [begun_port_state, h.2]
  decide

theorem consentOf?_eq_none {v : Byte} (h : 1 < v.toNat) : consentOf? v = none := by
  have h0 : v ≠ 0 := fun hv => by simp [hv] at h
  have h1 : v ≠ 1 := fun hv => by simp [hv] at h
  rw [consentOf?, if_neg h0, if_neg h1]

section Consent
variable {s : State} {p : Station} {tag v : Byte} {c : Consent}

theorem consent_of_bad (h : consentOf? v = none) :
    s.consent p tag v = s.reply p .consent tag .badValue [] := by
  simp [State.consent, h]

/-- The part with the consent set and answered. -/
def State.consented (p : Station) (tag : Byte) (c : Consent) (s : State) : State :=
  (s.modStation p (fun r => { r with consent := c })).reply p .consent tag .ok []

theorem consent_of_held (h : consentOf? v = some c) (hc : (s.station p).consent = c) :
    s.consent p tag v = s.consented p tag c := by
  simp [State.consent, h, hc, State.consented]

theorem consent_of_changed (h : consentOf? v = some c) (hc : (s.station p).consent ≠ c) :
    s.consent p tag v = (s.consented p tag c).arbiter := by
  simp [State.consent, h, hc, State.consented]

end Consent

/-! ## LIMIT (R136) -/

theorem recompute_permit_same {st : Station} {s : State} (h : (s.station st).present = true) :
    (s.recompute st).permit st
      = (s.permit st).recomputed s.time (s.formCaps st) (s.clipStatus st (s.formCaps st)) := by
  simp only [State.recompute, h, if_true]
  split <;> simp [State.makePermit]

theorem recompute_transmitter_same {st : Station} {s : State}
    (h : (s.station st).present = true) :
    (s.recompute st).transmitter st
      = if ((s.recompute st).permit st).output = (s.permit st).output then s.transmitter st
        else (s.transmitter st).makePermit ((s.recompute st).permit st).output := by
  rw [recompute_permit_same h]
  simp only [State.recompute, h, if_true]
  split
  · rfl
  · simp [State.makePermit]

/-- R132: no target lies above the local limit. -/
theorem formCaps_target_le (s : State) (st : Station) :
    (s.formCaps st).target ≤ (s.station st).localLimit :=
  Caps.target_le_of_active _ .limit rfl

/-- Settles O41: CONSENT by whether the value changes, LIMIT by the recomputation of its station. -/
theorem consentAndLimit : Obligations.ConsentAndLimit := by
  refine ⟨fun s p tag v htakes hmode hpresent => ?_, fun s p tag v htakes hmode hpresent => ?_⟩
  · have hexec : exec (.consent p tag v) s = .next ((s.begun p).consent p tag v) :=
      congrArg _ (runCommand_of_takes _ htakes hmode hpresent)
    rw [hexec]
    refine ⟨fun hbad => congrArg _ (consent_of_bad (consentOf?_eq_none hbad)),
      fun c hc hidle => congrArg _ ?_, fun c hc hchanged => congrArg _ ?_⟩
    · by_cases hheld : ((s.begun p).station p).consent = c
      · exact consent_of_held hc hheld
      · refine (consent_of_changed hc hheld).trans ?_
        rcases hidle with hidle | hidle | hidle | hidle
        · exact absurd hidle hheld
        · exact arbiter_of_busy _ (.inr (.inr hidle))
        · exact arbiter_of_busy _ (.inr (.inl hidle))
        · exact arbiter_of_empty _ hidle
    · exact consent_of_changed hc hchanged
  · have hexec : exec (.limit p tag v) s = .next ((s.begun p).limit p tag v) :=
      congrArg _ (runCommand_of_takes _ htakes hmode hpresent)
    let u := (s.begun p).modStation p (fun r => { r with localLimit := min v.toNat 1000 })
    have hlimit : (s.begun p).limit p tag v
        = (u.recompute p).reply p .limit tag .ok (byte2 (min v.toNat 1000)) := rfl
    have hu : u.station p = { s.station p with localLimit := min v.toNat 1000 } :=
      State.modStation_station_same _ _ _
    have hpermit := recompute_permit_same (st := p) (s := u) (by rw [hu]; exact hpresent)
    have htransmitter := recompute_transmitter_same (st := p) (s := u) (by rw [hu]; exact hpresent)
    have hframe := recompute_frame p u
    rw [hexec, hlimit]
    refine ⟨_, rfl, ?_, ?_, fun q hq => ⟨?_, ?_, ?_, ?_⟩, ?_, ?_, ?_, ?_, ?_, ?_⟩
    · rw [hframe]
      rfl
    · rw [State.reply_station, hframe]
      exact hu
    · rw [State.reply_station, hframe]
      exact State.modStation_station_of_ne _ _ hq
    · rw [State.reply_permit, recompute_permit_of_ne p q u hq]
      rfl
    · rw [State.reply_transmitter, recompute_transmitter_of_ne p q u hq]
      rfl
    · rw [State.reply_port, if_neg hq, hframe]
      exact State.modPort_port_of_ne s _ hq
    · rw [State.reply_port, if_pos rfl, hframe]
      rfl
    · rw [State.reply_permit, hpermit]
      refine (formCaps_target_le u p).trans ?_
      rw [hu]
    · rw [State.reply_permit, hpermit]
      rfl
    · rw [State.reply_permit, hpermit]
      simp [Permit.recomputed, State.formCaps, hu]
    · rw [State.reply_permit, hpermit]
      rfl
    · exact htransmitter

/-! ## REQUEST (R58 to R61) -/

section Request
variable {s : State} {p : Station} {tag sl al : Byte} {w : Half} {n : Fin 4}

theorem request_of_bad_slot (h : slotOf? sl = none) :
    s.request p tag sl al w = s.reply p .request tag .badValue [] := by
  simp only [State.request, h]

theorem request_of_empty (h : slotOf? sl = some n) (hslot : s.slot p n = none) :
    s.request p tag sl al w = s.reply p .request tag .noPattern [] := by
  simp [State.request, h, hslot]

theorem needsNoWork_eq_false (hwork : (s.station p).state ≠ .steady n ∨ s.allSatisfied p n = false) :
    s.needsNoWork p n = false := by
  rcases hwork with hst | hall
  · simp [State.needsNoWork, hst]
  · simp [State.needsNoWork, hall]

variable (h : slotOf? sl = some n) (hslot : (s.slot p n).isSome = true)
include h hslot

theorem request_of_no_work (hst : (s.station p).state = .steady n)
    (hall : s.allSatisfied p n = true) :
    s.request p tag sl al w = s.reply p .request tag .noChange [] := by
  simp [State.request, h, Option.ne_none_iff_isSome.mpr hslot, State.needsNoWork, hst, hall]

theorem request_of_conflict (hwork : (s.station p).state ≠ .steady n ∨ s.allSatisfied p n = false)
    (hcompatible : compatible (s.combination p n) = false) :
    s.request p tag sl al w = s.reply p .request tag .conflict [] := by
  simp [State.request, h, Option.ne_none_iff_isSome.mpr hslot, needsNoWork_eq_false hwork,
    hcompatible]

theorem request_of_accepted (hwork : (s.station p).state ≠ .steady n ∨ s.allSatisfied p n = false)
    (hcompatible : compatible (s.combination p n) = true) :
    s.request p tag sl al w = (s.enqueue p tag n al w).arbiter := by
  simp [State.request, h, Option.ne_none_iff_isSome.mpr hslot, needsNoWork_eq_false hwork,
    hcompatible]

end Request

/-- R61: with no QUEUED record of the station and the counter's value free, the new record takes
it. -/
theorem enqueue_of_fresh {s : State} {p : Station} (tag : Byte) (n : Fin 4) (al : Byte) (w : Half)
    (hnone : s.queuedOf p = none) (hfresh : s.nextId ∉ s.queue.map TRecord.id) :
    s.enqueue p tag n al w = { s with
        nextId := nextIdAfter s.nextId
        queue := s.queue ++ [s.newRecord p n al w s.nextId] }.reply p .request tag .accepted
      (byte1 s.nextId) := by
  have hsame : s.supersede p = s := by simp only [State.supersede, hnone]
  have hid : s.newId = (s.nextId, nextIdAfter s.nextId) := chooseId_of_free hfresh _
  rw [enqueue_eq, hsame, hid]

/-- R61: the station's QUEUED record, which the engine does not hold, leaves with its notice, and no
SYNC waits for it on a port that begins a command. -/
theorem supersede_of_queued {s : State} {p : Station} {old : TRecord} (h : s.QueueOrdered)
    (hold : s.queuedOf p = some old) (hidle : (s.port p).executing = none) :
    s.supersede p = { s with queue := s.queue.filter (fun q => q.id != old.id) }.notify p
      (.transitionEnded old.id .superseded) := by
  obtain ⟨hmem, hst, hqueued⟩ := State.queuedOf_eq_some hold
  have hrecord := State.record?_of_mem h.1 hmem
  have hfree : s.engine ≠ .transition old.id := fun he => by
    obtain ⟨hids, -, -, -, -, -, hheld, -⟩ := h
    obtain ⟨q, hq, hqid, hstage⟩ := hheld old.id he
    exact hstage (List.inj_on_of_nodup_map hids hq hmem hqid ▸ hqueued)
  simp only [State.supersede, hold]
  rw [endRecord_of_not_held _ hrecord hfree, hst]
  exact syncLeft_notify_of_idle _ _ hidle

/-- Settles O39: the refusals in their order, then the record that is queued. -/
theorem requestIsJudgedAndQueued : Obligations.RequestIsJudgedAndQueued := by
  intro s p tag sl al w htakes hmode hpresent
  have hexec : exec (.request p tag sl al w) s = .next ((s.begun p).request p tag sl al w) :=
    congrArg _ (runCommand_of_takes _ htakes hmode hpresent)
  have hbusy : ∀ t : State, t.hold = s.hold → t.engine = s.engine →
      (s.hold = true ∨ s.engine ≠ .free) → t.arbiter = t := fun t hh he h =>
    arbiter_of_busy t (h.elim (fun h => .inr (.inr (hh.trans h))) fun h => .inr (.inl (he ▸ h)))
  rw [hexec]
  refine ⟨fun hbad => congrArg _ (request_of_bad_slot (slotOf?_eq_none hbad)), fun n hn =>
    ⟨fun hempty => congrArg _ (request_of_empty hn hempty), fun hslot =>
      ⟨fun hst hall => congrArg _ (request_of_no_work hn hslot hst hall), fun hwork =>
        ⟨fun hconflict => congrArg _ (request_of_conflict hn hslot hwork hconflict),
          fun hcompatible hordered => ?_⟩⟩⟩⟩
  have haccepted : Host.Outcome.next (φ := Fault) (ρ := Refusal) ((s.begun p).request p tag sl al w)
      = .next ((s.begun p).enqueue p tag n al w).arbiter :=
    congrArg _ (request_of_accepted hn hslot hwork hcompatible)
  rw [haccepted]
  refine ⟨fun hnone hfresh => ?_, fun old hold => ?_⟩
  · rw [enqueue_of_fresh (s := s.begun p) tag n al w hnone hfresh]
    exact ⟨rfl, hbusy _ rfl rfl⟩
  · have hidle : ((s.begun p).port p).executing = none :=
      (begun_executing s p p).trans (begins_canBegin htakes.1).1
    have hordered' : (s.begun p).QueueOrdered := hordered
    have hrest := queueOrdered_supersede p _ hordered'
    have hsuperseded := supersede_of_queued hordered' hold hidle
    rw [hsuperseded] at hrest
    obtain ⟨hid, -, hfree⟩ := hrest.newId
    rw [enqueue_eq, hsuperseded]
    refine ⟨_, _, rfl, hbusy _ rfl rfl, rfl, rfl, rfl, rfl, rfl, rfl, hid.1, hid.2, hfree,
      fun q hq => ?_, ?_⟩
    · rw [State.reply_port, if_neg hq]
      exact ((State.notify_port _ _ _ _).trans (if_neg hq)).trans (State.modPort_port_of_ne s _ hq)
    · rw [State.reply_port, if_pos rfl]
      exact congrArg _ ((State.notify_port _ _ _ _).trans (if_pos rfl))

end Sys2Proof.Machine
end

section
/-!
SUPPORT. The mute (R78): what a recomputation of several stations makes of each permit, and what the
release of a mute leaves of permits, monitor timers and ports.
-/

namespace Sys2Proof.Machine

/-! ## Caps (R131) -/

/-- The caps of a station are formed from the contactors, the slots, the stations, the classes and
whether a mute holds. -/
theorem State.formCaps_congr {s t : State} (q : Station) (hc : t.contactors = s.contactors)
    (hst : t.stations = s.stations) (hsl : t.slots = s.slots)
    (htowers : (t.conf q).towers = (s.conf q).towers) (hlost : (t.conf q).lost = (s.conf q).lost)
    (hmute : t.muteHolds q = s.muteHolds q) : t.formCaps q = s.formCaps q := by
  have hsat := State.currentSatisfied_congr (s := s) (t := t) q (by rw [hc]) hst hsl
  have hclass : (t.conf q).stationClass = (s.conf q).stationClass := by
    simp only [Conformance.stationClass, htowers]
  have hpattern : t.currentPattern q = s.currentPattern q := by
    have hslot : t.slot q = s.slot q := funext fun n => by simp only [State.slot, hsl]
    simp only [State.currentPattern, State.station, hst, hslot]
  simp only [State.formCaps, State.patternCap, hpattern, hclass, hsat, hmute, hlost, State.station, hst]

theorem formCaps_recompute (st q : Station) (s : State) :
    (s.recompute st).formCaps q = s.formCaps q := by
  rw [recompute_frame]
  rfl

theorem clipStatus_recompute (st q : Station) (s : State) :
    (s.recompute st).clipStatus q = s.clipStatus q := by
  rw [recompute_frame]
  rfl

/-- A present station's permit after a recomputation. -/
def State.recomputedPermit (s : State) (q : Station) : Permit :=
  (s.permit q).recomputed s.time (s.formCaps q) (s.clipStatus q (s.formCaps q))

theorem recomputedPermit_recompute_of_ne {st q : Station} (s : State) (h : q ≠ st) :
    (s.recompute st).recomputedPermit q = s.recomputedPermit q := by
  have htime : (s.recompute st).time = s.time := by rw [recompute_frame]
  simp only [State.recomputedPermit, formCaps_recompute, clipStatus_recompute, htime,
    recompute_permit_of_ne st q s h]

/-- No station's recomputation touches another's: each present station of the list is recomputed as
it stands. -/
theorem recomputeAll_permit_of_mem {sts : List Station} (hnodup : sts.Nodup) {q : Station}
    (hq : q ∈ sts) {s : State} (hp : (s.station q).present = true) :
    (s.recomputeAll sts).permit q = s.recomputedPermit q := by
  induction sts generalizing s with
  | nil => simp at hq
  | cons st rest ih =>
    obtain ⟨hst, hrest⟩ := List.nodup_cons.mp hnodup
    change ((s.recompute st).recomputeAll rest).permit q = _
    by_cases hqst : q = st
    · subst hqst
      rw [(recomputeAll_permit_of_not_mem rest q _ hst).1]
      exact recompute_permit_same hp
    · rw [ih hrest ((List.mem_cons.mp hq).resolve_left hqst), recomputedPermit_recompute_of_ne s hqst]
      rw [recompute_frame]
      exact hp

theorem StationSet.members_nodup (t : StationSet) : t.members.Nodup :=
  List.Nodup.filter _ (by decide)

/-! ## What the engine keeps for its record -/

/-- A write to what the engine keeps, as `flying` shows it. -/
theorem flying_modFlight {s : State} {r : TRecord} {f : Flight} (g : Flight → Flight)
    (h : s.flying = some (r, f)) :
    (s.modFlight g).flying = some ({ r with flight := some (g f) }, g f) := by
  unfold State.flying at h
  cases he : s.engine with
  | free => simp [he] at h
  | drive j => simp [he] at h
  | transition id =>
    simp only [he] at h
    obtain ⟨q, hq, hflight⟩ := Option.bind_eq_some_iff.mp h
    obtain ⟨f', hf', heq⟩ := Option.map_eq_some_iff.mp hflight
    obtain ⟨rfl, rfl⟩ := Prod.mk.inj heq
    have hrecord : (s.modFlight g).record? id = some { q with flight := some (g f') } := by
      simp only [State.modFlight, State.modGranted, he]
      refine (s.record?_modRecord id (f := fun r => { r with flight := r.flight.map g })
        fun _ => rfl).trans ?_
      simp [hq, hf']
    have hengine : (s.modFlight g).engine = .transition id := by
      rw [modFlight_frame]
      exact he
    simp only [State.flying, hengine, hrecord, Option.bind_some, Option.map_some]

theorem muteHolds_of_flying {s : State} {r : TRecord} {f : Flight} (h : s.flying = some (r, f))
    (q : Station) : s.muteHolds q = (f.mutePlaced && f.muteSet.has q) := by
  simp only [State.muteHolds, h]

/-! ## Monitor timers (R123) -/

/-- The timers of the STEADY stations of a list restart. -/
theorem restartMonitors_conf (sts : List Station) (s : State) (q : Station) :
    (sts.foldl (fun s st => if (s.station st).state.isSteady then s.startMonitor st else s) s).conf q
      = if q ∈ sts ∧ (s.station q).state.isSteady then
          { s.conf q with monitorExpiry := some (s.time + 1000 * (s.station q).monitorTimeout) }
        else s.conf q := by
  induction sts generalizing s with
  | nil => simp
  | cons st rest ih =>
    simp only [List.foldl_cons]
    by_cases hst : (s.station st).state.isSteady
    · rw [if_pos hst, ih]
      by_cases hq : q = st
      · subst hq
        have hconf : (s.startMonitor q).conf q = { s.conf q with
            monitorExpiry := some (s.time + 1000 * (s.station q).monitorTimeout) } :=
          State.modConf_conf_same _ _ _
        have hstation : (s.startMonitor q).station q = s.station q := rfl
        have htime : (s.startMonitor q).time = s.time := rfl
        rw [hconf, hstation, htime]
        simp [hst]
      · have hconf : (s.startMonitor st).conf q = s.conf q := State.modConf_conf_of_ne _ _ hq
        rw [hconf]
        simp only [List.mem_cons, hq, false_or]
        rfl
    · rw [if_neg hst, ih]
      by_cases hq : q = st
      · subst hq
        simp [hst]
      · simp [hq]

/-! ## The release of a mute (R78) -/

/-- The part whose record's mute has just been marked as not placed. -/
def State.unmuted (s : State) : State := s.modFlight (fun f => { f with mutePlaced := false })

section Release
variable {s : State} {r : TRecord} {f : Flight} (hf : s.flying = some (r, f))
include hf

theorem releaseMute_eq : s.releaseMute
    = ((f.muteSet.members.foldl (fun s st =>
        if (s.station st).state.isSteady then s.startMonitor st else s)
        (s.unmuted.recomputeAll f.muteSet.members)).notifyCollateral r.id f.collateral true) := by
  simp only [State.releaseMute, hf]
  rfl

theorem releaseMute_permit (q : Station) :
    s.releaseMute.permit q = (s.unmuted.recomputeAll f.muteSet.members).permit q := by
  rw [releaseMute_eq hf, notifyCollateral_frame, restartMonitors_frame]
  rfl

theorem releaseMute_conf (q : Station) : s.releaseMute.conf q
    = if f.muteSet.has q && (s.station q).state.isSteady then
        { s.conf q with monitorExpiry := some (s.time + 1000 * (s.station q).monitorTimeout) }
      else s.conf q := by
  have hconf : s.releaseMute.conf q = (f.muteSet.members.foldl (fun s st =>
      if (s.station st).state.isSteady then s.startMonitor st else s)
      (s.unmuted.recomputeAll f.muteSet.members)).conf q := by
    rw [releaseMute_eq hf, notifyCollateral_frame]
    rfl
  rw [hconf, restartMonitors_conf, recomputeAll_frame, State.unmuted, modFlight_frame]
  simp only [StationSet.mem_members, Bool.and_eq_true]
  rfl

theorem releaseMute_port (q : Station) : s.releaseMute.port q
    = if f.collateral.has q then Port.handed (.collateral r.id true) (s.port q) else s.port q := by
  rw [releaseMute_eq hf, notifyCollateral_port, restartMonitors_frame, recomputeAll_frame,
    State.unmuted, modFlight_frame]
  rfl

/-- The release leaves of the record what the mark leaves. -/
theorem releaseMute_queue : s.releaseMute.queue = s.unmuted.queue := by
  rw [releaseMute_eq hf, notifyCollateral_frame, restartMonitors_frame, recomputeAll_frame]

theorem releaseMute_flying : s.releaseMute.flying = s.unmuted.flying := by
  have hengine : s.releaseMute.engine = s.unmuted.engine := by
    rw [releaseMute_frame, State.unmuted, modFlight_frame]
  simp only [State.flying, State.record?, hengine, releaseMute_queue hf]

theorem unmuted_muteHolds (q : Station) : s.unmuted.muteHolds q = false :=
  muteHolds_of_flying (flying_modFlight _ hf) q

theorem releaseMute_muteHolds (q : Station) : s.releaseMute.muteHolds q = false := by
  simp only [State.muteHolds, releaseMute_flying hf]
  exact unmuted_muteHolds hf q

/-- The caps the release has formed are those that stand behind it: the monitor timers are no part of
them. -/
theorem releaseMute_formCaps (q : Station) : s.releaseMute.formCaps q = s.unmuted.formCaps q := by
  have hconf := releaseMute_conf hf q
  have hu : s.unmuted.conf q = s.conf q := by
    rw [State.unmuted, modFlight_frame]
    rfl
  refine State.formCaps_congr q ?_ ?_ ?_ ?_ ?_ ?_
  · rw [releaseMute_frame, State.unmuted, modFlight_frame]
  · rw [releaseMute_frame, State.unmuted, modFlight_frame]
  · rw [releaseMute_frame, State.unmuted, modFlight_frame]
  · rw [hconf, hu]
    split <;> rfl
  · rw [hconf, hu]
    split <;> rfl
  · rw [releaseMute_muteHolds hf, unmuted_muteHolds hf]

theorem releaseMute_permit_of_mem {q : Station} (hq : f.muteSet.has q = true)
    (hp : (s.station q).present = true) :
    s.releaseMute.permit q = s.unmuted.recomputedPermit q := by
  rw [releaseMute_permit hf]
  refine recomputeAll_permit_of_mem f.muteSet.members_nodup ((f.muteSet.mem_members q).mpr hq) ?_
  rw [State.unmuted, modFlight_frame]
  exact hp

theorem muteReleased_releaseMute : s.muteReleased s.releaseMute r f := by
  have hunmuted : ∀ q, s.unmuted.permit q = s.permit q := fun q => by
    rw [State.unmuted, modFlight_frame]
    rfl
  refine ⟨releaseMute_muteHolds hf, fun q hq hp => ?_, fun q hq => ?_, fun q _ => ⟨?_, ?_⟩⟩
  · rw [releaseMute_permit_of_mem hf hq hp, releaseMute_formCaps hf]
    refine ⟨rfl, ?_, rfl, ?_⟩
    · simp only [State.recomputedPermit, Permit.recomputed, State.formCaps, unmuted_muteHolds hf]
    · rw [← hunmuted]
      rfl
  · rw [releaseMute_permit hf, (recomputeAll_permit_of_not_mem _ q _ ?_).1, hunmuted]
    rw [StationSet.mem_members, hq]
    decide
  · exact releaseMute_port hf q
  · have htime : s.releaseMute.time = s.time := by rw [releaseMute_frame]
    rw [State.monitorRestarted, htime]
    exact releaseMute_conf hf q

end Release

/-- What was released before an event's end stands behind it, when the end leaves the permits, the
conformance and the tables, and no mute is held. -/
theorem State.muteReleased.congr {s u s' u' : State} {r : TRecord} {f : Flight}
    (h : s.muteReleased u r f)
    (hbefore : s' = { s with queue := s'.queue, engine := s'.engine, ports := s'.ports })
    (hbeforePorts : ∀ q, q ≠ r.station → s'.port q = s.port q)
    (hafter : u' = { u with queue := u'.queue, engine := u'.engine, ports := u'.ports })
    (hafterPorts : ∀ q, q ≠ r.station → u'.port q = u.port q)
    (hmute : ∀ q, u'.muteHolds q = false) : s'.muteReleased u' r f := by
  obtain ⟨hreleased, hpermit, hother, hports⟩ := h
  have hstations : s'.stations = s.stations := by rw [hbefore]
  have hpermits : s'.permits = s.permits := by rw [hbefore]
  have hconfs : s'.conformance = s.conformance := by rw [hbefore]
  have hpermits' : u'.permits = u.permits := by rw [hafter]
  have hconfs' : u'.conformance = u.conformance := by rw [hafter]
  have htime' : u'.time = u.time := by rw [hafter]
  have hcaps : ∀ q, u'.formCaps q = u.formCaps q := fun q =>
    State.formCaps_congr q (by rw [hafter]) (by rw [hafter]) (by rw [hafter])
      (by simp only [State.conf, hconfs']) (by simp only [State.conf, hconfs'])
      (by rw [hmute, hreleased])
  refine ⟨hmute, fun q hq hp => ?_, fun q hq => ?_, fun q hq => ⟨?_, ?_⟩⟩
  · simp only [State.permit, State.station, hpermits, hpermits', hstations, hcaps] at hp ⊢
    exact hpermit q hq hp
  · simp only [State.permit, hpermits, hpermits']
    exact hother q hq
  · rw [hafterPorts q hq, hbeforePorts q hq]
    exact (hports q hq).1
  · have hmonitor := (hports q hq).2
    simp only [State.monitorRestarted, State.conf, State.station, hconfs, hconfs', hstations,
      htime'] at hmonitor ⊢
    exact hmonitor

/-! ## A record alone in the queue that ends from MUTING (R82) -/

theorem State.fliesAlone.flying {s : State} {r : TRecord} {f : Flight} (h : s.fliesAlone r f) :
    s.flying = some (r, f) := by
  obtain ⟨hqueue, hengine, hflight⟩ := h
  have hrecord : s.record? r.id = some r := by simp [State.record?, hqueue]
  simp only [State.flying, hengine, hrecord, Option.bind_some, hflight, Option.map_some]

/-- A queue of one record, of which the engine's writes leave id and station. -/
theorem queue_of_roster {s t : State} {r : TRecord} (hr : t.roster = s.roster)
    (hqueue : s.queue = [r]) : ∃ q, t.queue = [q] ∧ q.id = r.id ∧ q.station = r.station := by
  have hentries : t.queue.map TRecord.entry = [r.entry] := by
    have h := congrArg Roster.entries hr
    simpa only [State.roster, hqueue, List.map_cons, List.map_nil] using h
  obtain ⟨q, rest, hq, hentry, hrest⟩ := List.map_eq_cons_iff.mp hentries
  obtain rfl := List.map_eq_nil_iff.mp hrest
  exact ⟨q, hq, congrArg QueueEntry.id hentry, congrArg QueueEntry.station hentry⟩

theorem thenArbiter_of_empty {f : State → State} {s : State} (h : (f s).queue = []) :
    s.thenArbiter f = f s := by
  unfold State.thenArbiter
  dsimp only
  split
  · exact arbiter_of_empty _ h
  · rfl

/-- The end of a record that the engine holds, alone in its queue, on a port where no SYNC waits. -/
theorem endRecord_of_alone {s : State} {r : TRecord} (x : TResult) (hqueue : s.queue = [r])
    (hengine : s.engine = .transition r.id) (hidle : (s.port r.station).executing = none) :
    s.endRecord r.id x
      = { s with queue := [], engine := .free }.notify r.station (.transitionEnded r.id x) := by
  have hrecord : s.record? r.id = some r := by simp [State.record?, hqueue]
  have hleft : s.queue.filter (fun q => q.id != r.id) = [] := by simp [hqueue]
  rw [endRecord_of_held x hrecord hengine, hleft]
  exact syncLeft_notify_of_idle _ _ hidle

theorem endMuting_of_alone {s : State} {r : TRecord} {f : Flight} (x : TResult)
    (h : s.fliesAlone r f) (hidle : (s.port r.station).executing = none) :
    let t := s.endMuting x
    t = { s with
        queue := [], engine := .free, permits := t.permits, transmitters := t.transmitters
        conformance := t.conformance, ports := t.ports }
    ∧ s.muteReleased t r f ∧ s.monitorRestarted t f r.station
    ∧ (f.collateral.has r.station = false →
        t.port r.station = Port.handed (.transitionEnded r.id x) (s.port r.station)) := by
  have hflying := h.flying
  obtain ⟨hqueue, hengine, -⟩ := h
  let stopped := s.modFlight (fun f => { f with muteExpiry := none, holdStart := none })
  have hstopped : stopped = { s with queue := stopped.queue } := modFlight_frame _ s
  have hflying' : stopped.flying = some
      ({ r with flight := some { f with muteExpiry := none, holdStart := none } },
        { f with muteExpiry := none, holdStart := none }) := flying_modFlight _ hflying
  have hreleased := muteReleased_releaseMute hflying'
  have hport := releaseMute_port hflying' r.station
  have hconf := releaseMute_conf hflying' r.station
  have hframe := releaseMute_frame stopped
  obtain ⟨q, hq, hqid, hqst⟩ := queue_of_roster
    ((State.roster_releaseMute stopped).trans (s.roster_modFlight _)) hqueue
  have hidle' : (stopped.releaseMute.port q.station).executing = none := by
    have hstill : (stopped.port r.station).executing = none := by
      rw [hstopped]
      exact hidle
    rw [hqst, hport]
    split
    · exact (Port.handed_executing _ _).trans hstill
    · exact hstill
  have hengine' : stopped.releaseMute.engine = .transition q.id := by
    rw [hframe, hstopped, hqid]
    exact hengine
  have hend : s.endMuting x = { stopped.releaseMute with queue := [], engine := .free }.notify
      r.station (.transitionEnded r.id x) := by
    have heq := endRecord_of_alone x hq hengine' hidle'
    rw [hqid, hqst] at heq
    rw [← heq]
    simp only [State.endMuting, hflying]
    rfl
  have hafterPort := State.notify_port { stopped.releaseMute with queue := [], engine := .free }
    r.station
  rw [hend]
  refine ⟨?_, ?_, ?_, fun hcollateral => ?_⟩
  · rw [hframe, hstopped]
    rfl
  · exact hreleased.congr (by rw [hstopped]) (fun _ _ => by rw [hstopped]; rfl) rfl
      (fun q hq => (hafterPort q _).trans (if_neg hq)) (fun q => rfl)
  · have htime : stopped.releaseMute.time = s.time := by rw [hframe, hstopped]
    have hstation : stopped.station r.station = s.station r.station := by rw [hstopped]; rfl
    have hbefore : stopped.conf r.station = s.conf r.station := by rw [hstopped]; rfl
    have hstime : stopped.time = s.time := by rw [hstopped]
    rw [hstation, hbefore, hstime] at hconf
    rw [State.monitorRestarted, State.notify_time, State.notify_conf]
    simp only [htime]
    exact hconf
  · rw [hafterPort, if_pos rfl]
    refine congrArg _ (hport.trans ((if_neg ?_).trans ?_))
    · simp [hcollateral]
    · rw [hstopped]
      rfl

end Sys2Proof.Machine
end

section
/-!
The statement about CANCEL (R62, R63, R82).
-/

namespace Sys2Proof.Machine

section Cancel
variable {s : State} {p : Station} {tag id : Byte}

theorem cancel_of_foreign (h : ∀ r, s.record? id.toNat = some r → r.station ≠ p) :
    s.cancel p tag id = s.reply p .cancel tag .unknownId [] := by
  unfold State.cancel
  split
  · rfl
  · next r hr => rw [if_pos (h r hr)]

variable {r : TRecord} (hr : s.record? id.toNat = some r) (hst : r.station = p)
include hr hst

theorem cancel_of_late (hstage : r.stage = .moving ∨ r.stage = .settling ∨ r.stage = .proving
      ∨ r.stage = .aborting) : s.cancel p tag id = s.reply p .cancel tag .late [] := by
  rcases hstage with h | h | h | h <;> simp [State.cancel, hr, hst, h]

theorem cancel_of_queued (hstage : r.stage = .queued) :
    s.cancel p tag id = (s.reply p .cancel tag .ok []).endRecord r.id .cancelled := by
  simp [State.cancel, hr, hst, hstage]

theorem cancel_of_muting (hstage : r.stage = .muting) : s.cancel p tag id
    = (s.reply p .cancel tag .ok []).thenArbiter (State.endMuting .cancelled) := by
  simp [State.cancel, hr, hst, hstage]

end Cancel

/-- A reply leaves a SYNC where it is. -/
theorem reply_executing (s : State) (p : Station) (k : CmdKind) (tag : Byte) (code : ResultCode)
    (fields : List Byte) :
    ((s.reply p k tag code fields).port p).executing = (s.port p).executing := by
  rw [State.reply_port, if_pos rfl, Port.answered_executing]

/-- Settles O40: the record's station and its stage decide. -/
theorem cancelByStage : Obligations.CancelByStage := by
  intro s p tag id htakes hmode hpresent
  have hexec : exec (.cancel p tag id) s = .next ((s.begun p).cancel p tag id) :=
    congrArg _ (runCommand_of_takes _ htakes hmode hpresent)
  have hidle : (((s.begun p).reply p .cancel tag .ok []).port p).executing = none :=
    (reply_executing ..).trans ((begun_executing s p p).trans (begins_canBegin htakes.1).1)
  rw [hexec]
  refine ⟨fun hforeign => congrArg _ (cancel_of_foreign hforeign), fun r hr hst =>
    ⟨fun hlate => congrArg _ (cancel_of_late (s := s.begun p) hr hst hlate),
      fun hqueued hfree => congrArg _ ?_, fun f hmuting halone => ?_⟩⟩
  · rw [cancel_of_queued (s := s.begun p) hr hst hqueued]
    have hrecord : ((s.begun p).reply p .cancel tag .ok []).record? r.id = some r := by
      rw [State.record?_id hr]
      exact hr
    rw [endRecord_of_not_held _ hrecord hfree, hst]
    exact syncLeft_notify_of_idle _ _ hidle
  · subst hst
    obtain ⟨hframe, hreleased, hmonitor, hport⟩ := endMuting_of_alone
      (s := (s.begun r.station).reply r.station .cancel tag .ok []) .cancelled halone hidle
    have hempty := congrArg State.queue hframe
    rw [cancel_of_muting (s := s.begun r.station) hr rfl hmuting, thenArbiter_of_empty hempty]
    refine ⟨_, rfl, hframe, hreleased.congr rfl (fun q hq => ?_) rfl (fun _ _ => rfl)
      hreleased.1, hmonitor, fun hcollateral => ?_⟩
    · rw [State.reply_port, if_neg hq]
      exact (State.modPort_port_of_ne s _ hq).symm
    · rw [hport hcollateral, State.reply_port, if_pos rfl]
      rfl

end Sys2Proof.Machine
end

section
/-!
SUPPORT. The arbiter (R68, R71): its run as an equation, whatever the turns it is given, and one
examination by what it decides.
-/

namespace Sys2Proof.Machine

/-! ## The run (R68) -/

/-- No more than `k` records are QUEUED. -/
def State.QueuedAtMost (k : Nat) (s : State) : Prop := s.queuedIds.length ≤ k

theorem queuedIds_length (s : State) :
    s.queuedIds.length = (s.roster.entries.filter QueueEntry.queued).length := by
  rw [State.queuedIds, s.roster_queued, List.length_map, List.length_map]

/-- Nothing that the engine does brings a record back to QUEUED. -/
theorem queuedAtMost_rosterInvariant (k : Nat) : RosterInvariant (State.QueuedAtMost k) where
  congr := fun {s t} h he => by
    rw [State.QueuedAtMost, queuedIds_length] at h ⊢
    rwa [he]
  stage := fun {g} hg s h => by
    refine Nat.le_trans ?_ h
    unfold State.setStage State.modGranted
    split
    · next id _ =>
      simp only [State.queuedIds, State.modRecord, List.length_map, ← List.countP_eq_length_filter,
        List.countP_map]
      refine List.countP_mono_left fun r _ hr => ?_
      by_cases hid : r.id = id
      · simp [hid, hg] at hr
      · simpa [hid] using hr
    · exact Nat.le_refl _
  ends := fun id x s h => by
    cases hr : s.record? id with
    | none => rwa [endRecord_of_missing x hr]
    | some r =>
      rw [State.QueuedAtMost, queuedIds_length] at h ⊢
      rw [State.roster_endRecord x hr]
      exact (List.filter_sublist.filter _).length_le.trans h

/-- A run that grants a record leaves fewer QUEUED than it found. -/
theorem examineFrom_queuedIds_lt {s : State} (h : (examineFrom s.queuedIds s).2 = true) :
    (examineFrom s.queuedIds s).1.queuedIds.length < s.queuedIds.length := by
  cases hids : s.queuedIds.length with
  | zero =>
    rw [List.length_eq_zero_iff.mp hids] at h
    cases h
  | succ k =>
    have hrun := (queuedAtMost_rosterInvariant (k + 1)).examineFrom (queuedAtMost_rosterInvariant k)
      (fun u id r hu hr hq t ht => by
        rw [State.QueuedAtMost, queuedIds_length] at hu ⊢
        rw [ht, Roster.grant_queued]
        refine Nat.le_of_lt_succ (Nat.lt_of_lt_of_le ?_ hu)
        refine List.length_filter_lt_length_iff_exists.mpr ⟨r.entry, List.mem_filter.mpr
          ⟨List.mem_map_of_mem (State.mem_of_record? hr), ?_⟩, ?_⟩
        · simp [TRecord.entry, hq]
        · simp [TRecord.entry, State.record?_id hr])
      s.queuedIds (s := s) (Nat.le_of_eq hids)
    rw [if_pos h] at hrun
    exact Nat.lt_succ_of_le hrun

/-- R68: one turn more than there are QUEUED records is as good as any number. -/
theorem arbiterRuns_fuel {n m : Nat} {s : State} (hn : s.queuedIds.length < n)
    (hm : s.queuedIds.length < m) : s.arbiterRuns n = s.arbiterRuns m := by
  induction n generalizing m s with
  | zero => exact absurd hn (Nat.not_lt_zero _)
  | succ n ih =>
    obtain ⟨m, rfl⟩ := Nat.exists_eq_succ_of_ne_zero (Nat.ne_of_gt (Nat.zero_lt_of_lt hm))
    have hfewer := examineFrom_queuedIds_lt (s := s)
    unfold State.arbiterRuns
    split
    · generalize examineFrom s.queuedIds s = run at hfewer ⊢
      obtain ⟨u, granted⟩ := run
      cases granted with
      | false => rfl
      | true =>
        have hlt : u.queuedIds.length < s.queuedIds.length := hfewer rfl
        exact ih (hlt.trans_le (Nat.le_of_lt_succ hn)) (hlt.trans_le (Nat.le_of_lt_succ hm))
    · rfl

/-- R68: what stands after one pass over the QUEUED records: the arbiter runs again once a record has
been granted. -/
def arbiterAfter (pass : State × Bool) : State := if pass.2 then pass.1.arbiter else pass.1

theorem arbiter_eq {s : State} (hrun : s.mode = .run) (hfree : s.engine = .free)
    (hhold : s.hold = false) : s.arbiter = arbiterAfter (examineFrom s.queuedIds s) := by
  have hlen : s.queuedIds.length ≤ s.queue.length := by
    rw [State.queuedIds, List.length_map]
    exact List.length_filter_le _ _
  have hfewer := examineFrom_queuedIds_lt (s := s)
  unfold State.arbiter
  rw [State.arbiterRuns, if_pos ⟨hrun, hfree, hhold⟩]
  generalize examineFrom s.queuedIds s = run at hfewer ⊢
  obtain ⟨u, granted⟩ := run
  cases granted with
  | false => rfl
  | true =>
    have hlt : u.queuedIds.length < s.queuedIds.length := hfewer rfl
    have hu : u.queuedIds.length ≤ u.queue.length := by
      rw [State.queuedIds, List.length_map]
      exact List.length_filter_le _ _
    exact arbiterRuns_fuel (hlt.trans_le hlen) (Nat.lt_succ_of_le hu)

/-- A granted record that stays in the engine ends the run. -/
theorem arbiterAfter_granted {t : State} (h : t.engine ≠ .free) : arbiterAfter (t, true) = t :=
  arbiter_of_busy t (.inr (.inl h))

theorem examineFrom_cons_passed {s t : State} {id : Nat} (ids : List Nat)
    (h : s.examine id = (t, false)) : examineFrom (id :: ids) s = examineFrom ids t := by
  simp only [examineFrom, h]

theorem examineFrom_cons_granted {s t : State} {id : Nat} (ids : List Nat)
    (h : s.examine id = (t, true)) : examineFrom (id :: ids) s = (t, true) := by
  simp only [examineFrom, h]

/-! ## One examination (R66, R71) -/

/-- R71, case 5: the record is granted. -/
def State.grants (s : State) (r : TRecord) : Prop :=
  s.admits r ∧ ((s.sharersOf r).isEmpty = true ∨ r.allowCollateral = true)
  ∧ ∀ q, (s.sharersOf r).has q = true → (s.station q).consent = .allow

theorem decision_eq (s : State) (r : TRecord) : s.decision r =
    if !compatible (s.combination r.station r.target) then .ends .conflict
    else if (s.movesOf r).any (fun m => (s.contactor m.contactor).state == .conflict) then
      .ends .failedContactor
    else if !(s.sharersOf r).isEmpty && !r.allowCollateral then .ends .needsCollateral
    else if (s.sharersOf r).members.any (fun q => (s.station q).consent == .deny) then .waits
    else .granted (s.movesOf r) (s.muteOf r) (s.sharersOf r) := rfl

theorem any_deny_iff (s : State) (t : StationSet) :
    t.members.any (fun q => (s.station q).consent == .deny) = true
      ↔ ∃ q, t.has q = true ∧ (s.station q).consent = .deny := by
  simp [List.any_eq_true, StationSet.mem_members]

theorem StationSet.isEmpty_iff (t : StationSet) : t.isEmpty = true ↔ ∀ q, t.has q = false := by
  constructor
  · intro h q
    have hmembers : t.a = false ∧ t.b = false ∧ t.c = false := by
      simpa [StationSet.isEmpty, and_assoc] using h
    obtain ⟨ha, hb, hc⟩ := hmembers
    cases q
    · exact ha
    · exact hb
    · exact hc
  · intro h
    have ha : t.a = false := h .a
    have hb : t.b = false := h .b
    have hc : t.c = false := h .c
    simp [StationSet.isEmpty, ha, hb, hc]

section Decisions
variable {s : State} {r : TRecord}

theorem decision_of_endsAs {x : TResult} (h : s.endsAs r x) : s.decision r = .ends x := by
  rw [decision_eq]
  rcases h with ⟨rfl, hc⟩ | ⟨rfl, hc, m, hm, hstate⟩ | ⟨rfl, ⟨hc, hmoves⟩, hshared, hallow⟩
  · simp [hc]
  · have hany : (s.movesOf r).any (fun m => (s.contactor m.contactor).state == .conflict) = true :=
      List.any_eq_true.mpr ⟨m, hm, by simp [hstate]⟩
    simp [hc, hany]
  · have hnone : (s.movesOf r).any (fun m => (s.contactor m.contactor).state == .conflict) = false :=
      List.any_eq_false.mpr fun m hm => by simpa using hmoves m hm
    simp [hc, hnone, hshared, hallow]

theorem decision_of_admits (h : s.admits r)
    (hshared : (s.sharersOf r).isEmpty = true ∨ r.allowCollateral = true) : s.decision r =
      if (s.sharersOf r).members.any (fun q => (s.station q).consent == .deny) then .waits
      else .granted (s.movesOf r) (s.muteOf r) (s.sharersOf r) := by
  obtain ⟨hc, hmoves⟩ := h
  have hnone : (s.movesOf r).any (fun m => (s.contactor m.contactor).state == .conflict) = false :=
    List.any_eq_false.mpr fun m hm => by simpa using hmoves m hm
  rw [decision_eq]
  rcases hshared with hshared | hshared <;> simp [hc, hnone, hshared]

theorem decision_of_parks (h : s.parks r) : s.decision r = .waits := by
  obtain ⟨hadmits, hallow, hdeny⟩ := h
  rw [decision_of_admits hadmits (.inr hallow), if_pos ((any_deny_iff s _).mpr hdeny)]

theorem decision_of_grants (h : s.grants r) :
    s.decision r = .granted (s.movesOf r) (s.muteOf r) (s.sharersOf r) := by
  obtain ⟨hadmits, hshared, hconsent⟩ := h
  rw [decision_of_admits hadmits hshared, if_neg]
  rw [any_deny_iff]
  rintro ⟨q, hq, hdeny⟩
  rw [hconsent q hq] at hdeny
  cases hdeny

variable (hr : s.record? r.id = some r) (hq : r.stage = .queued)
include hr hq

/-- Cases 1 to 3: the record leaves the queue, and whether it waited for consent with it. -/
theorem examine_of_endsAs {x : TResult} (h : s.endsAs r x) (hfree : s.engine = .free)
    (hidle : (s.port r.station).executing = none) :
    s.examine r.id = ({ s with queue := s.queue.filter (fun q => q.id != r.id) }.notify r.station
      (.transitionEnded r.id x), false) := by
  have hrecord : (s.modRecord r.id (fun r => { r with waitingConsent := false })).record? r.id
      = some { r with waitingConsent := false } :=
    (s.record?_modRecord r.id (f := fun r => { r with waitingConsent := false }) fun _ => rfl).trans
      (congrArg _ hr)
  have hleft : (s.modRecord r.id (fun r => { r with waitingConsent := false })).queue.filter
      (fun q => q.id != r.id) = s.queue.filter (fun q => q.id != r.id) := by
    simp only [State.modRecord, List.filter_map]
    have hkept : s.queue.filter ((fun q : TRecord => q.id != r.id) ∘
        fun q => if q.id = r.id then { q with waitingConsent := false } else q)
        = s.queue.filter (fun q => q.id != r.id) := List.filter_congr fun q _ => by
      simp only [Function.comp_apply]
      split <;> rfl
    rw [hkept]
    refine (List.map_congr_left (g := fun q => q) fun q hq => ?_).trans (List.map_id' _)
    exact if_neg (by simpa using (List.mem_filter.mp hq).2)
  have hend := endRecord_of_not_held x hrecord (by simp [hfree])
  rw [hleft] at hend
  simp only [State.examine, hr, hq, if_true, decision_of_endsAs h, hend]
  exact congrArg (·, false) (syncLeft_notify_of_idle _ _ hidle)

/-- Case 4: the record waits for consent. -/
theorem examine_of_parks (h : s.parks r) :
    s.examine r.id = (s.modRecord r.id (fun r => { r with waitingConsent := true }), false) := by
  simp only [State.examine, hr, hq, if_true, decision_of_parks h]

/-- Case 5: the record is granted. -/
theorem examine_of_grants (h : s.grants r) :
    s.examine r.id = (s.grant r.id (s.movesOf r) (s.muteOf r) (s.sharersOf r), true) := by
  simp only [State.examine, hr, hq, if_true, decision_of_grants h]

end Decisions

end Sys2Proof.Machine
end

section
/-!
SUPPORT. What a grant leaves (R72, R76 to R78): of a record with no moves, which enters PROVING at once,
and of one that waits in MUTING for a station of its mute set to be COLD.
-/

namespace Sys2Proof.Machine

/-! ## The placement of a mute (R78) -/

/-- One station of the mute set: recomputed under its MUTE cap, its monitor timer stopped if STEADY. -/
def State.muteOne (s : State) (st : Station) : State :=
  if ((s.recompute st).station st).state.isSteady then (s.recompute st).stopMonitor st
  else s.recompute st

theorem placeMute_eq (muteSet : StationSet) (s : State) : s.placeMute muteSet
    = muteSet.members.foldl State.muteOne (s.modFlight (fun f => { f with mutePlaced := true })) := rfl

section MuteOne
variable (s : State) (st : Station)

theorem muteOne_frame : s.muteOne st = { s with
    permits := (s.muteOne st).permits, transmitters := (s.muteOne st).transmitters
    conformance := (s.muteOne st).conformance } := by
  unfold State.muteOne
  split
  · rw [recompute_frame]
    rfl
  · rw [recompute_frame]

theorem muteOne_permit (q : Station) : (s.muteOne st).permit q = (s.recompute st).permit q := by
  unfold State.muteOne
  split <;> rfl

theorem muteOne_conf (q : Station) : (s.muteOne st).conf q
    = if q = st ∧ (s.station q).state.isSteady then { s.conf q with monitorExpiry := none }
      else s.conf q := by
  have hstation : (s.recompute st).station st = s.station st := by rw [recompute_frame]; rfl
  have hconf : ∀ q, (s.recompute st).conf q = s.conf q := fun q => by rw [recompute_frame]; rfl
  unfold State.muteOne
  rw [hstation]
  by_cases hq : q = st
  · subst hq
    by_cases hs : (s.station q).state.isSteady = true
    · rw [if_pos hs, if_pos ⟨rfl, hs⟩]
      exact (State.modConf_conf_same _ _ _).trans (congrArg (fun c : Conformance =>
        { c with monitorExpiry := none }) (hconf q))
    · rw [if_neg hs, if_neg fun h => hs h.2]
      exact hconf q
  · refine Eq.trans ?_ (if_neg fun h => hq h.1).symm
    split
    · exact (State.modConf_conf_of_ne _ _ hq).trans (hconf q)
    · exact hconf q

theorem recompute_cold (q : Station) : ((s.recompute st).permit q).cold = (s.permit q).cold := by
  by_cases hq : q = st
  · subst hq
    by_cases hp : (s.station q).present = true
    · rw [recompute_permit_same hp]
      rfl
    · simp [State.recompute, hp]
  · rw [recompute_permit_of_ne st q s hq]

theorem muteOne_recomputedPermit {q : Station} (hq : q ≠ st) :
    (s.muteOne st).recomputedPermit q = s.recomputedPermit q := by
  have hconf : (s.muteOne st).conf q = s.conf q := by
    rw [muteOne_conf, if_neg fun h => hq h.1]
  have hmute : (s.muteOne st).muteHolds q = s.muteHolds q := by
    rw [muteOne_frame]
    rfl
  have hcaps : (s.muteOne st).formCaps q = s.formCaps q :=
    State.formCaps_congr q (by rw [muteOne_frame]) (by rw [muteOne_frame]) (by rw [muteOne_frame])
      (by rw [hconf]) (by rw [hconf]) hmute
  have hclip : (s.muteOne st).clipStatus q = s.clipStatus q := by
    rw [muteOne_frame]
    rfl
  have htime : (s.muteOne st).time = s.time := by rw [muteOne_frame]
  simp only [State.recomputedPermit, hcaps, hclip, htime, muteOne_permit,
    recompute_permit_of_ne st q s hq]

end MuteOne

section MuteList
variable (sts : List Station) (s : State)

theorem muteList_frame : sts.foldl State.muteOne s = { s with
    permits := (sts.foldl State.muteOne s).permits
    transmitters := (sts.foldl State.muteOne s).transmitters
    conformance := (sts.foldl State.muteOne s).conformance } := by
  induction sts generalizing s with
  | nil => rfl
  | cons st rest ih =>
    have h := ih (s.muteOne st)
    rw [List.foldl_cons]
    generalize rest.foldl State.muteOne (s.muteOne st) = t at h ⊢
    rw [muteOne_frame] at h
    exact h

theorem muteList_cold (q : Station) :
    ((sts.foldl State.muteOne s).permit q).cold = (s.permit q).cold := by
  induction sts generalizing s with
  | nil => rfl
  | cons st rest ih => rw [List.foldl_cons, ih, muteOne_permit, recompute_cold]

theorem muteList_permit_of_not_mem {q : Station} (hq : q ∉ sts) :
    (sts.foldl State.muteOne s).permit q = s.permit q := by
  induction sts generalizing s with
  | nil => rfl
  | cons st rest ih =>
    obtain ⟨hne, hrest⟩ := not_or.mp (mt List.mem_cons.mpr hq)
    rw [List.foldl_cons, ih _ hrest, muteOne_permit, recompute_permit_of_ne st q s hne]

theorem muteList_permit_of_mem {sts : List Station} (hnodup : sts.Nodup) {q : Station} (hq : q ∈ sts)
    {s : State} (hp : (s.station q).present = true) :
    (sts.foldl State.muteOne s).permit q = s.recomputedPermit q := by
  induction sts generalizing s with
  | nil => simp at hq
  | cons st rest ih =>
    obtain ⟨hst, hrest⟩ := List.nodup_cons.mp hnodup
    rw [List.foldl_cons]
    by_cases hqst : q = st
    · subst hqst
      rw [muteList_permit_of_not_mem _ _ hst, muteOne_permit]
      exact recompute_permit_same hp
    · rw [ih hrest ((List.mem_cons.mp hq).resolve_left hqst), muteOne_recomputedPermit s st hqst]
      rw [muteOne_frame]
      exact hp

theorem muteList_conf (q : Station) : (sts.foldl State.muteOne s).conf q
    = if q ∈ sts ∧ (s.station q).state.isSteady then { s.conf q with monitorExpiry := none }
      else s.conf q := by
  induction sts generalizing s with
  | nil => simp
  | cons st rest ih =>
    have hstation : (s.muteOne st).station q = s.station q := by
      rw [muteOne_frame]
      rfl
    rw [List.foldl_cons, ih, hstation, muteOne_conf]
    by_cases hq : q = st
    · subst hq
      by_cases hs : (s.station q).state.isSteady = true <;> simp [hs]
    · simp [hq]

end MuteList

/-! ## The record a grant writes -/

/-- R72: a granted record that has entered a stage. -/
def TRecord.grantedIn (g : Stage) (f : Flight) (r : TRecord) : TRecord :=
  { r with stage := g, waitingConsent := false, waitExpiry := none, flight := some f }

/-- A write to what the engine keeps is a write to the record it holds. -/
theorem modFlight_queue {s t : State} {id : Nat} {g : TRecord → TRecord} (h : Flight → Flight)
    (hg : ∀ r, (g r).id = r.id) (ht : t.queue = (s.modRecord id g).queue)
    (he : t.engine = .transition id) : (t.modFlight h).queue
      = (s.modRecord id (fun r => { g r with flight := (g r).flight.map h })).queue := by
  have hqueue : (t.modFlight h).queue
      = ((s.modRecord id g).modRecord id (fun r => { r with flight := r.flight.map h })).queue := by
    simp only [State.modFlight, State.modGranted, he, State.modRecord, ht]
  rw [hqueue, s.modRecord_modRecord id _ hg]

theorem holding_setStage (s : State) (id : Nat) (moves : List Move) (muteSet collateral : StationSet)
    (g : Stage) : (s.holding id (TRecord.granted moves muteSet collateral)).setStage g
      = s.holding id (TRecord.grantedIn g (Flight.granted moves muteSet collateral)) :=
  State.holding_modGranted (g := TRecord.granted moves muteSet collateral) (fun _ => rfl) _

/-! ## The grant into MUTING (R77) -/

section Muting
variable {s : State} {r : TRecord} (hr : s.record? r.id = some r) (moves : List Move)
  (muteSet collateral : StationSet)

/-- R77 steps 1 to 5: the part as the cold condition is examined. -/
def State.muting (r : TRecord) (moves : List Move) (muteSet collateral : StationSet) (s : State) :
    State :=
  let u := ((s.holding r.id (TRecord.grantedIn .muting (Flight.granted moves muteSet collateral))).placeMute
    muteSet).notifyCollateral r.id collateral false
  u.modFlight (fun f => { f with
    muteExpiry := some (u.time + 1000 * u.site.muteTimeout)
    holdStart := if u.hold then some u.time else none })

include hr in
theorem grant_of_moves (hmoves : moves ≠ []) : s.grant r.id moves muteSet collateral
    = (s.muting r moves muteSet collateral).examineCold := by
  have hflying := State.holding_flying (g := TRecord.granted moves muteSet collateral)
    (fun _ => rfl) hr rfl
  rw [grant_eq, if_neg (by simpa using hmoves)]
  simp only [State.enterMuting, hflying, holding_setStage]
  rfl

/-- The placement and its notices leave all but the queue, the permits, the monitor timers and the
collateral ports. -/
theorem placeMute_frame (s : State) : s.placeMute muteSet = { s with
    queue := (s.modFlight (fun f => { f with mutePlaced := true })).queue
    permits := (s.placeMute muteSet).permits, transmitters := (s.placeMute muteSet).transmitters
    conformance := (s.placeMute muteSet).conformance } := by
  rw [placeMute_eq, muteList_frame, modFlight_frame]

theorem muting_frame (s : State) : s.muting r moves muteSet collateral = { s with
    engine := .transition r.id
    queue := (s.muting r moves muteSet collateral).queue
    permits := (s.muting r moves muteSet collateral).permits
    transmitters := (s.muting r moves muteSet collateral).transmitters
    conformance := (s.muting r moves muteSet collateral).conformance
    ports := (s.muting r moves muteSet collateral).ports } := by
  unfold State.muting
  dsimp only
  rw [modFlight_frame, notifyCollateral_frame, placeMute_frame]
  rfl

/-- R77, R78, R81: what the engine keeps for a record that has entered MUTING. -/
def State.mutingFlight (s : State) (moves : List Move) (muteSet collateral : StationSet) : Flight :=
  { Flight.granted moves muteSet collateral with
    mutePlaced := true
    muteExpiry := some (s.time + 1000 * s.site.muteTimeout)
    holdStart := if s.hold then some s.time else none }

theorem muting_queue (s : State) :
    (s.muting r moves muteSet collateral).queue = (s.modRecord r.id
      (TRecord.grantedIn .muting (s.mutingFlight moves muteSet collateral))).queue := by
  have hplaced := modFlight_queue (s := s) (id := r.id)
    (g := TRecord.grantedIn .muting (Flight.granted moves muteSet collateral))
    (t := s.holding r.id (TRecord.grantedIn .muting (Flight.granted moves muteSet collateral)))
    (fun f => { f with mutePlaced := true }) (fun _ => rfl) rfl rfl
  unfold State.muting
  dsimp only
  refine (modFlight_queue (s := s) (id := r.id) _
    (g := TRecord.grantedIn .muting
      { Flight.granted moves muteSet collateral with mutePlaced := true }) (fun _ => rfl) ?_ ?_).trans ?_
  · rw [notifyCollateral_frame, placeMute_frame]
    exact hplaced
  · rw [notifyCollateral_frame, placeMute_frame]
    rfl
  · rw [notifyCollateral_frame, placeMute_frame]
    rfl

/-- The part as the mute set is recomputed. -/
def State.muteMarked (r : TRecord) (moves : List Move) (muteSet collateral : StationSet) (s : State) :
    State :=
  (s.holding r.id (TRecord.grantedIn .muting (Flight.granted moves muteSet collateral))).modFlight
    (fun f => { f with mutePlaced := true })

theorem muteMarked_frame (s : State) : s.muteMarked r moves muteSet collateral = { s with
    engine := .transition r.id, queue := (s.muteMarked r moves muteSet collateral).queue } := by
  rw [State.muteMarked, modFlight_frame]
  rfl

theorem muting_conf_permit (s : State) (q : Station) :
    (s.muting r moves muteSet collateral).conf q
      = (muteSet.members.foldl State.muteOne (s.muteMarked r moves muteSet collateral)).conf q
    ∧ (s.muting r moves muteSet collateral).permit q
      = (muteSet.members.foldl State.muteOne (s.muteMarked r moves muteSet collateral)).permit q := by
  unfold State.muting
  dsimp only
  rw [modFlight_frame, notifyCollateral_frame, placeMute_eq]
  exact ⟨rfl, rfl⟩

theorem muting_conf (s : State) (q : Station) : (s.muting r moves muteSet collateral).conf q
    = if muteSet.has q && (s.station q).state.isSteady then { s.conf q with monitorExpiry := none }
      else s.conf q := by
  rw [(muting_conf_permit moves muteSet collateral s q).1, muteList_conf, muteMarked_frame]
  simp only [StationSet.mem_members, Bool.and_eq_true]
  rfl

theorem muting_cold (s : State) (q : Station) :
    ((s.muting r moves muteSet collateral).permit q).cold = (s.permit q).cold := by
  rw [(muting_conf_permit moves muteSet collateral s q).2, muteList_cold, muteMarked_frame]
  rfl

theorem muting_permit_of_not_mem (s : State) {q : Station} (hq : muteSet.has q = false) :
    (s.muting r moves muteSet collateral).permit q = s.permit q := by
  rw [(muting_conf_permit moves muteSet collateral s q).2, muteList_permit_of_not_mem,
    muteMarked_frame]
  · rfl
  · rw [StationSet.mem_members, hq]
    decide

theorem muting_port (s : State) (q : Station) : (s.muting r moves muteSet collateral).port q
    = if collateral.has q then Port.handed (.collateral r.id false) (s.port q) else s.port q := by
  unfold State.muting
  dsimp only
  rw [modFlight_frame]
  refine (notifyCollateral_port _ _ _ _ q).trans ?_
  rw [placeMute_frame]
  rfl

/-- A cap of 0 that applies leaves a permit at output 0. -/
theorem recomputedPermit_of_muteHolds {s : State} {q : Station} (h : s.muteHolds q = true) :
    (s.recomputedPermit q).output = 0 ∧ (s.recomputedPermit q).target = 0
      ∧ (s.recomputedPermit q).caps.mute = ⟨true, some 0⟩ := by
  have htarget : (s.formCaps q).target = 0 := by
    have hcap : ((s.formCaps q).cap .mute).active = some 0 := by
      simp [State.formCaps, Caps.cap, Cap.active, h]
    simpa using Caps.target_le_of_active _ _ hcap
  refine ⟨?_, htarget, ?_⟩
  · simp [State.recomputedPermit, Permit.recomputed, htarget]
  · simp [State.recomputedPermit, Permit.recomputed, State.formCaps, h]

theorem flying_congr {s t : State} (he : t.engine = s.engine) (hq : t.queue = s.queue) :
    t.flying = s.flying := by
  simp only [State.flying, State.record?, he, hq]

include hr

theorem muting_permit_of_mem {q : Station} (hq : muteSet.has q = true)
    (hp : (s.station q).present = true) :
    ((s.muting r moves muteSet collateral).permit q).output = 0
    ∧ ((s.muting r moves muteSet collateral).permit q).target = 0
    ∧ ((s.muting r moves muteSet collateral).permit q).caps.mute = ⟨true, some 0⟩ := by
  have hflying := flying_modFlight (fun f => { f with mutePlaced := true })
    (State.holding_flying (g := TRecord.grantedIn .muting (Flight.granted moves muteSet collateral))
      (fun _ => rfl) hr rfl)
  have hholds : (s.muteMarked r moves muteSet collateral).muteHolds q = true :=
    (muteHolds_of_flying hflying q).trans hq
  have hpermit : (s.muting r moves muteSet collateral).permit q
      = (s.muteMarked r moves muteSet collateral).recomputedPermit q := by
    rw [(muting_conf_permit moves muteSet collateral s q).2]
    refine muteList_permit_of_mem muteSet.members_nodup ((muteSet.mem_members q).mpr hq) ?_
    rw [muteMarked_frame]
    exact hp
  rw [hpermit]
  exact recomputedPermit_of_muteHolds hholds

/-- R79: a station of the mute set that is not COLD keeps the record in MUTING. -/
theorem grant_of_not_cold (hmoves : moves ≠ [])
    (hcold : ∃ q, muteSet.has q = true ∧ (s.permit q).cold ≠ .cold) :
    s.grant r.id moves muteSet collateral = s.muting r moves muteSet collateral := by
  have hflying : (s.muting r moves muteSet collateral).flying = some
      (r.grantedIn .muting (s.mutingFlight moves muteSet collateral),
        s.mutingFlight moves muteSet collateral) := by
    have hheld := State.holding_flying
      (g := TRecord.grantedIn .muting (s.mutingFlight moves muteSet collateral)) (fun _ => rfl) hr rfl
    rw [← hheld]
    refine flying_congr ?_ (muting_queue moves muteSet collateral s)
    rw [muting_frame]
    rfl
  have hwarm : (s.muting r moves muteSet collateral).coldCondition muteSet = false := by
    obtain ⟨q, hq, hne⟩ := hcold
    refine List.all_eq_false.mpr ⟨q, (muteSet.mem_members q).mpr hq, ?_⟩
    simpa [muting_cold] using hne
  rw [grant_of_moves hr moves muteSet collateral hmoves]
  simp only [State.examineCold, hflying]
  refine if_neg fun h => ?_
  exact absurd (hwarm.symm.trans h.2) (by decide)

end Muting

/-! ## The grant straight to PROVING (R76) -/

theorem setStation_frame (st : Station) (new : StationState) (s : State) :
    s.setStation st new = { s with
      stations := s.stations.modify st (fun r => { r with state := new })
      ports := (s.setStation st new).ports } := by
  unfold State.setStation
  dsimp only
  split <;> rfl

theorem setStation_port (st q : Station) (new : StationState) (s : State) :
    (s.setStation st new).port q
      = if q = st ∧ (s.station st).present = true ∧ (s.station st).state ≠ new then
          Port.handed (.stationState new) (s.port q)
        else s.port q := by
  unfold State.setStation
  dsimp only
  by_cases hchange : (s.station st).present = true ∧ (s.station st).state ≠ new
  · rw [if_pos (by simpa using hchange)]
    refine (State.notify_port _ _ _ _).trans ?_
    by_cases hq : q = st
    · rw [if_pos hq, if_pos ⟨hq, hchange⟩]
      rfl
    · rw [if_neg hq, if_neg fun h => hq h.1]
      rfl
  · rw [if_neg (by simpa using hchange), if_neg fun h => hchange h.2]
    rfl

section Proving
variable {s : State} {r : TRecord} (hr : s.record? r.id = some r) (muteSet collateral : StationSet)

/-- R76 steps 1 and 2: the requester is PROVING, and its tower records are formed. -/
def State.provingFormed (r : TRecord) (muteSet collateral : StationSet) (s : State) : State :=
  ((s.holding r.id (TRecord.grantedIn .proving (Flight.granted [] muteSet collateral))).setStation r.station
    (.proving r.target)).formTowers r.station r.target

/-- R96: the proof timeout of a slot. -/
def State.proofTimeoutOf (s : State) (st : Station) (n : Fin 4) : Nat :=
  match s.slot st n with
  | some p => 1000 * p.proofTimeout
  | none => 0

theorem startProof_eq (st : Station) (n : Fin 4) (s : State) : s.startProof st n
    = s.modFlight (fun f => { f with
        proofRun := 0, proofExpiry := some (s.time + s.proofTimeoutOf st n) }) := rfl

/-- What the engine keeps for a record in PROVING. -/
def State.provingFlight (s : State) (r : TRecord) (muteSet collateral : StationSet) : Flight :=
  { Flight.granted [] muteSet collateral with
    proofExpiry := some (s.time + s.proofTimeoutOf r.station r.target) }

theorem provingFormed_frame (s : State) : s.provingFormed r muteSet collateral = { s with
    engine := .transition r.id
    queue := (s.modRecord r.id (TRecord.grantedIn .proving (Flight.granted [] muteSet collateral))).queue
    stations := s.stations.modify r.station (fun x => { x with state := .proving r.target })
    conformance := (s.provingFormed r muteSet collateral).conformance
    ports := (s.provingFormed r muteSet collateral).ports } := by
  unfold State.provingFormed
  rw [setStation_frame]
  rfl

include hr in
theorem grant_of_no_moves : s.grant r.id [] muteSet collateral
    = ((s.provingFormed r muteSet collateral).recompute r.station).startProof r.station r.target := by
  have hflying := State.holding_flying (g := TRecord.granted [] muteSet collateral)
    (fun _ => rfl) hr rfl
  rw [grant_eq, if_pos (show ([] : List Move).isEmpty = true from rfl)]
  simp only [State.enterProvingAtOnce, hflying, holding_setStage]
  rfl

include hr in
theorem grant_of_no_moves_queue : (s.grant r.id [] muteSet collateral).queue
    = (s.modRecord r.id
        (TRecord.grantedIn .proving (s.provingFlight r muteSet collateral))).queue := by
  rw [grant_of_no_moves hr, startProof_eq]
  refine (modFlight_queue (s := s) (id := r.id)
    (g := TRecord.grantedIn .proving (Flight.granted [] muteSet collateral)) _ (fun _ => rfl) ?_ ?_).trans ?_
  · rw [recompute_frame, provingFormed_frame]
  · rw [recompute_frame, provingFormed_frame]
  · rw [recompute_frame, provingFormed_frame]
    rfl

include hr in
theorem grant_of_no_moves_frame : s.grant r.id [] muteSet collateral = { s with
    engine := .transition r.id
    queue := (s.grant r.id [] muteSet collateral).queue
    stations := s.stations.modify r.station (fun x => { x with state := .proving r.target })
    conformance := (s.provingFormed r muteSet collateral).conformance
    ports := (s.provingFormed r muteSet collateral).ports
    permits := ((s.provingFormed r muteSet collateral).recompute r.station).permits
    transmitters := ((s.provingFormed r muteSet collateral).recompute r.station).transmitters } := by
  rw [grant_of_no_moves hr, startProof_eq, modFlight_frame]
  generalize (State.modFlight _ _).queue = queue
  rw [recompute_frame, provingFormed_frame]

theorem provingFormed_conf {p : Pattern} (hslot : s.slot r.station r.target = some p) :
    (s.provingFormed r muteSet collateral).conf r.station
      = ⟨p.towers.map (fun l => TowerRecord.formed l.tower), none, false⟩ := by
  have hslot' : ((s.holding r.id (TRecord.grantedIn .proving
      (Flight.granted [] muteSet collateral))).setStation r.station (.proving r.target)).slot r.station
      r.target = some p := by
    rw [setStation_frame]
    exact hslot
  unfold State.provingFormed State.formTowers
  rw [State.modConf_conf_same, hslot']

theorem provingFormed_conf_of_ne {q : Station} (hq : q ≠ r.station) :
    (s.provingFormed r muteSet collateral).conf q = s.conf q := by
  unfold State.provingFormed State.formTowers
  rw [State.modConf_conf_of_ne _ _ hq, setStation_frame]
  rfl

theorem provingFormed_port (q : Station) : (s.provingFormed r muteSet collateral).port q
    = if q = r.station ∧ (s.station r.station).present = true
        ∧ (s.station r.station).state ≠ .proving r.target then
        Port.handed (.stationState (.proving r.target)) (s.port q)
      else s.port q :=
  setStation_port r.station q _ _

theorem provingFormed_station (q : Station) : (s.provingFormed r muteSet collateral).station q
    = if q = r.station then { s.station q with state := .proving r.target } else s.station q := by
  rw [provingFormed_frame]
  exact PerStation.get_modify _ _ _ q

include hr in
/-- The caps that the grant has formed are those that stand behind it: the proof timer is no part of
them, and no mute is placed. -/
theorem grant_of_no_moves_formCaps (q : Station) : (s.grant r.id [] muteSet collateral).formCaps q
    = (s.provingFormed r muteSet collateral).formCaps q := by
  have hbefore : (s.provingFormed r muteSet collateral).flying
      = some (r.grantedIn .proving (Flight.granted [] muteSet collateral),
        Flight.granted [] muteSet collateral) := by
    rw [← State.holding_flying (g := TRecord.grantedIn .proving (Flight.granted [] muteSet collateral))
      (fun _ => rfl) hr rfl]
    refine flying_congr ?_ ?_
    · rw [provingFormed_frame]
      rfl
    · rw [provingFormed_frame]
      rfl
  have hbehind : (s.grant r.id [] muteSet collateral).flying
      = some (r.grantedIn .proving (s.provingFlight r muteSet collateral),
        s.provingFlight r muteSet collateral) := by
    rw [← State.holding_flying (g := TRecord.grantedIn .proving (s.provingFlight r muteSet collateral))
      (fun _ => rfl) hr rfl]
    refine flying_congr ?_ (grant_of_no_moves_queue hr muteSet collateral)
    rw [grant_of_no_moves_frame hr]
    rfl
  refine State.formCaps_congr q ?_ ?_ ?_ ?_ ?_ ?_
  · rw [grant_of_no_moves_frame hr, provingFormed_frame]
  · rw [grant_of_no_moves_frame hr, provingFormed_frame]
  · rw [grant_of_no_moves_frame hr, provingFormed_frame]
  · rw [grant_of_no_moves_frame hr]
    rfl
  · rw [grant_of_no_moves_frame hr]
    rfl
  · rw [muteHolds_of_flying hbefore, muteHolds_of_flying hbehind]
    rfl

include hr in
theorem grant_of_no_moves_permit (q : Station) : (s.grant r.id [] muteSet collateral).permit q
    = ((s.provingFormed r muteSet collateral).recompute r.station).permit q := by
  rw [grant_of_no_moves_frame hr]
  rfl

include hr in
theorem grant_of_no_moves_permit_of_present (hp : (s.station r.station).present = true) :
    (s.grant r.id [] muteSet collateral).permit r.station
      = (s.provingFormed r muteSet collateral).recomputedPermit r.station := by
  rw [grant_of_no_moves_permit hr]
  refine recompute_permit_same ?_
  rw [provingFormed_station, if_pos rfl]
  exact hp

include hr in
theorem grant_of_no_moves_recomputedAs :
    s.recomputedAs (s.grant r.id [] muteSet collateral) r.station := by
  have hpermit : (s.provingFormed r muteSet collateral).permit r.station = s.permit r.station := by
    rw [provingFormed_frame]
    rfl
  refine ⟨fun hp => ?_, fun hp => ?_⟩
  · rw [grant_of_no_moves_permit_of_present hr muteSet collateral hp, grant_of_no_moves_formCaps hr,
      ← hpermit]
    exact ⟨rfl, rfl, rfl⟩
  · have habsent : ((s.provingFormed r muteSet collateral).station r.station).present = false := by
      rw [provingFormed_station, if_pos rfl]
      exact hp
    rw [grant_of_no_moves_permit hr, ← hpermit]
    simp [State.recompute, habsent]

include hr in
/-- The PATTERN cap of a PROVING station is its proof cap (Table 8.2). -/
theorem grant_of_no_moves_pattern {p : Pattern} (hslot : s.slot r.station r.target = some p)
    (hp : (s.station r.station).present = true) :
    ((s.grant r.id [] muteSet collateral).permit r.station).caps.pattern
      = ⟨true, some (p.licensedPower * p.proofLevel / 1000)⟩ := by
  have hstation := provingFormed_station (s := s) (r := r) muteSet collateral r.station
  rw [if_pos rfl] at hstation
  have hslot' : (s.provingFormed r muteSet collateral).slot r.station r.target = some p := by
    rw [provingFormed_frame]
    exact hslot
  rw [grant_of_no_moves_permit_of_present hr muteSet collateral hp]
  simp [State.recomputedPermit, Permit.recomputed, State.formCaps, State.patternCap,
    State.currentPattern, hstation, StationState.slot, hslot', perMille]

end Proving

end Sys2Proof.Machine
end

section
/-!
The statement about the arbiter: a queue of one QUEUED record by each case of R71, and a queue of two
by the order of their examination (R68 to R72, R76 to R78).
-/

namespace Sys2Proof.Machine

/-! ## Runs over one record -/

/-- R68: the arbiter may examine. -/
def State.mayExamine (s : State) : Prop := s.mode = .run ∧ s.engine = .free ∧ s.hold = false

section One
variable {s : State} {r : TRecord} (hs : s.mayExamine) (hqueue : s.queue = [r])
  (hq : r.stage = .queued)
include hqueue

theorem record?_of_one : s.record? r.id = some r := by simp [State.record?, hqueue]

include hs hq

theorem arbiter_of_one : s.arbiter = arbiterAfter (examineFrom [r.id] s) := by
  obtain ⟨hrun, hfree, hhold⟩ := hs
  have hids : s.queuedIds = [r.id] := by simp [State.queuedIds, hqueue, hq]
  rw [arbiter_eq hrun hfree hhold, hids]

theorem arbiter_of_endsAs {x : TResult} (h : s.endsAs r x)
    (hidle : (s.port r.station).executing = none) :
    s.arbiter = { s with queue := [] }.notify r.station (.transitionEnded r.id x) := by
  have hexamined := examine_of_endsAs (record?_of_one hqueue) hq h hs.2.1 hidle
  have hleft : s.queue.filter (fun q => q.id != r.id) = [] := by simp [hqueue]
  rw [arbiter_of_one hs hqueue hq, examineFrom_cons_passed [] hexamined, hleft]
  rfl

theorem arbiter_of_parks (h : s.parks r) :
    s.arbiter = { s with queue := [{ r with waitingConsent := true }] } := by
  have hexamined := examine_of_parks (record?_of_one hqueue) hq h
  rw [arbiter_of_one hs hqueue hq, examineFrom_cons_passed [] hexamined]
  simp [examineFrom, arbiterAfter, State.modRecord, hqueue]

theorem arbiter_of_grants (h : s.grants r)
    (hstays : (s.grant r.id (s.movesOf r) (s.muteOf r) (s.sharersOf r)).engine ≠ .free) :
    s.arbiter = s.grant r.id (s.movesOf r) (s.muteOf r) (s.sharersOf r) := by
  have hexamined := examine_of_grants (record?_of_one hqueue) hq h
  rw [arbiter_of_one hs hqueue hq, examineFrom_cons_granted [] hexamined, arbiterAfter_granted hstays]

end One

/-! ## Grants that stay (R71, R72) -/

theorem muteOf_of_no_moves {s : State} {r : TRecord} (h : s.movesOf r = []) (q : Station) :
    (s.muteOf r).has q = (q == r.station) := by
  simp [State.muteOf, State.muteSetOf, h]

theorem sharersOf_of_no_moves {s : State} {r : TRecord} (h : s.movesOf r = []) (q : Station) :
    (s.sharersOf r).has q = false := by
  simp only [State.sharersOf, State.collateralOf, StationSet.has_of, muteOf_of_no_moves h]
  by_cases hq : q = r.station <;> simp [hq]

/-- A record with no moves and a compatible combination has nothing to wait for. -/
theorem grants_of_no_moves {s : State} {r : TRecord}
    (hc : compatible (s.combination r.station r.target) = true) (h : s.movesOf r = []) :
    s.grants r := by
  have hmoves : s.moveSet (s.combination r.station r.target) = [] := h
  refine ⟨⟨hc, by simp [hmoves]⟩, .inl ((StationSet.isEmpty_iff _).mpr (sharersOf_of_no_moves h)),
    fun q hq => ?_⟩
  rw [sharersOf_of_no_moves h] at hq
  cases hq

theorem State.grantStays.grants {s : State} {r : TRecord} (h : s.grantStays r) : s.grants r := by
  obtain ⟨hadmits, hshared, hconsent, -⟩ := h
  exact ⟨hadmits, hshared, hconsent⟩

/-- R72, R76, R77: a granted record that goes to PROVING or stays in MUTING is the engine's, in its
place of the queue. -/
theorem grant_of_grantStays {s : State} {r : TRecord} (hr : s.record? r.id = some r)
    (h : s.movesOf r = [] ∨ ∃ q, (s.muteOf r).has q = true ∧ (s.permit q).cold ≠ .cold) :
    let t := s.grant r.id (s.movesOf r) (s.muteOf r) (s.sharersOf r)
    t.engine = .transition r.id ∧ ∃ f : Flight, f.moves = s.movesOf r
      ∧ t.queue = (s.modRecord r.id (TRecord.grantedIn
          (if s.movesOf r = [] then .proving else .muting) f)).queue := by
  by_cases hmoves : s.movesOf r = []
  · rw [if_pos hmoves, hmoves]
    refine ⟨?_, s.provingFlight r (s.muteOf r) (s.sharersOf r), rfl,
      grant_of_no_moves_queue hr _ _⟩
    rw [grant_of_no_moves_frame hr]
  · rw [if_neg hmoves]
    dsimp only
    rw [grant_of_not_cold hr _ _ _ hmoves (h.resolve_left hmoves)]
    refine ⟨?_, s.mutingFlight (s.movesOf r) (s.muteOf r) (s.sharersOf r), rfl,
      muting_queue _ _ _ s⟩
    rw [muting_frame]

/-! ## A grant straight to PROVING, and one into MUTING -/

section Grants
variable {s : State} {r : TRecord} (hs : s.mayExamine) (hqueue : s.queue = [r])
  (hq : r.stage = .queued)
include hs hqueue hq

theorem arbiter_of_no_moves (hc : compatible (s.combination r.station r.target) = true)
    (hmoves : s.movesOf r = []) :
    s.arbiter.engine = .transition r.id
    ∧ (s.arbiter.station r.station).state = .proving r.target
    ∧ s.arbiter.contactors = s.contactors
    ∧ s.arbiter.queue = [r.grantedIn .proving (s.provingFlight r (s.muteOf r) (s.sharersOf r))]
    ∧ s.recomputedAs s.arbiter r.station
    ∧ (∀ p, s.slot r.station r.target = some p →
        s.arbiter.conf r.station
          = ⟨p.towers.map (fun l => TowerRecord.formed l.tower), none, false⟩
        ∧ ((s.station r.station).present = true →
            (s.arbiter.permit r.station).caps.pattern
              = ⟨true, some (p.licensedPower * p.proofLevel / 1000)⟩))
    ∧ ((s.station r.station).present = true → (s.station r.station).state ≠ .proving r.target →
        s.arbiter.port r.station
          = Port.handed (.stationState (.proving r.target)) (s.port r.station))
    ∧ ∀ q, q ≠ r.station → s.arbiter.station q = s.station q ∧ s.arbiter.conf q = s.conf q
        ∧ s.arbiter.permit q = s.permit q ∧ s.arbiter.port q = s.port q := by
  have hr := record?_of_one hqueue
  obtain ⟨hengine, -⟩ := grant_of_grantStays hr (.inl hmoves)
  have harbiter := arbiter_of_grants hs hqueue hq (grants_of_no_moves hc hmoves)
    (by rw [hengine]; exact Engine.noConfusion)
  rw [hmoves] at harbiter
  rw [harbiter]
  have hframe := grant_of_no_moves_frame hr (s.muteOf r) (s.sharersOf r)
  have hstation : ∀ q, (s.grant r.id [] (s.muteOf r) (s.sharersOf r)).station q
      = if q = r.station then { s.station q with state := .proving r.target } else s.station q :=
    fun q => by
      rw [hframe]
      exact PerStation.get_modify _ _ _ q
  have hconf : ∀ q, (s.grant r.id [] (s.muteOf r) (s.sharersOf r)).conf q
      = (s.provingFormed r (s.muteOf r) (s.sharersOf r)).conf q := fun q => by
    rw [hframe]
    rfl
  have hport : ∀ q, (s.grant r.id [] (s.muteOf r) (s.sharersOf r)).port q
      = (s.provingFormed r (s.muteOf r) (s.sharersOf r)).port q := fun q => by
    rw [hframe]
    rfl
  refine ⟨?_, ?_, ?_, ?_, grant_of_no_moves_recomputedAs hr _ _, fun p hp => ⟨?_, fun hpresent =>
    grant_of_no_moves_pattern hr _ _ hp hpresent⟩, fun hpresent hstate => ?_, fun q hq' =>
      ⟨?_, ?_, ?_, ?_⟩⟩
  · rw [hframe]
  · rw [hstation, if_pos rfl]
  · rw [hframe]
  · rw [grant_of_no_moves_queue hr]
    simp [State.modRecord, hqueue]
  · rw [hconf]
    exact provingFormed_conf _ _ hp
  · rw [hport, provingFormed_port, if_pos ⟨rfl, hpresent, hstate⟩]
  · rw [hstation, if_neg hq']
  · rw [hconf]
    exact provingFormed_conf_of_ne _ _ hq'
  · rw [grant_of_no_moves_permit hr, recompute_permit_of_ne _ _ _ hq', provingFormed_frame]
    rfl
  · rw [hport, provingFormed_port, if_neg fun h => hq' h.1]

theorem arbiter_of_muting (h : s.grants r) (hmoves : s.movesOf r ≠ [])
    (hcold : ∃ q, (s.muteOf r).has q = true ∧ (s.permit q).cold ≠ .cold) :
    s.arbiter = s.muting r (s.movesOf r) (s.muteOf r) (s.sharersOf r)
    ∧ s.arbiter.queue = [r.grantedIn .muting
        { Flight.granted (s.movesOf r) (s.muteOf r) (s.sharersOf r) with
          mutePlaced := true
          muteExpiry := some (s.time + 1000 * s.site.muteTimeout) }] := by
  have hr := record?_of_one hqueue
  obtain ⟨hengine, -⟩ := grant_of_grantStays hr (.inr hcold)
  have harbiter := arbiter_of_grants hs hqueue hq h (by rw [hengine]; exact Engine.noConfusion)
  rw [grant_of_not_cold hr _ _ _ hmoves hcold] at harbiter
  have hnone : s.mutingFlight (s.movesOf r) (s.muteOf r) (s.sharersOf r)
      = { Flight.granted (s.movesOf r) (s.muteOf r) (s.sharersOf r) with
          mutePlaced := true
          muteExpiry := some (s.time + 1000 * s.site.muteTimeout) } := by
    simp [State.mutingFlight, hs.2.2, Flight.granted]
  refine ⟨harbiter, ?_⟩
  rw [harbiter, muting_queue, hnone]
  simp [State.modRecord, hqueue]

end Grants

/-! ## Runs over two records (R68) -/

section Two
variable {s : State} {r q : TRecord} (hs : s.mayExamine) (hqueue : s.queue = [r, q])
  (hne : r.id ≠ q.id) (hr : r.stage = .queued) (hq : q.stage = .queued)
include hqueue

theorem record?_of_older : s.record? r.id = some r := by simp [State.record?, hqueue]

include hs hr hq

theorem arbiter_of_two : s.arbiter = arbiterAfter (examineFrom [r.id, q.id] s) := by
  obtain ⟨hrun, hfree, hhold⟩ := hs
  have hids : s.queuedIds = [r.id, q.id] := by simp [State.queuedIds, hqueue, hr, hq]
  rw [arbiter_eq hrun hfree hhold, hids]

include hne

/-- The older ends, and the run goes on to the younger. -/
theorem arbiter_of_older_endsAs {x : TResult} (h : s.endsAs r x)
    (hidle : (s.port r.station).executing = none) :
    s.arbiter
      = ({ s with queue := [q] }.notify r.station (.transitionEnded r.id x)).arbiter := by
  have hexamined := examine_of_endsAs (record?_of_older hqueue) hr h hs.2.1 hidle
  have hleft : s.queue.filter (fun q => q.id != r.id) = [q] := by simp [hqueue, hne.symm]
  rw [hleft] at hexamined
  rw [arbiter_of_two hs hqueue hr hq, examineFrom_cons_passed [q.id] hexamined]
  exact (arbiter_of_one (s := { s with queue := [q] }.notify r.station (.transitionEnded r.id x))
    hs rfl hq).symm

/-- The older waits for consent, and the run goes on to the younger. -/
theorem arbiter_of_older_parks (h : s.parks r) :
    s.arbiter = arbiterAfter (examineFrom [q.id]
      { s with queue := [{ r with waitingConsent := true }, q] }) := by
  have hexamined := examine_of_parks (record?_of_older hqueue) hr h
  have hwritten : s.modRecord r.id (fun r => { r with waitingConsent := true })
      = { s with queue := [{ r with waitingConsent := true }, q] } := by
    simp [State.modRecord, hqueue, hne.symm]
  rw [arbiter_of_two hs hqueue hr hq, examineFrom_cons_passed [q.id] hexamined, hwritten]

theorem holdsGrant_of_older (h : s.grantStays r) : s.holdsGrant s.arbiter [] r [q] := by
  obtain ⟨hengine, f, hf, hgranted⟩ := grant_of_grantStays (record?_of_older hqueue) h.2.2.2
  rw [arbiter_of_two hs hqueue hr hq,
    examineFrom_cons_granted [q.id] (examine_of_grants (record?_of_older hqueue) hr h.grants),
    arbiterAfter_granted (by rw [hengine]; exact Engine.noConfusion)]
  refine ⟨hengine, f, ?_, hf⟩
  rw [hgranted]
  simp only [State.modRecord, hqueue, List.map_cons, List.map_nil, if_pos, if_neg hne.symm]
  rfl

end Two

/-- The younger of two records, examined behind one that waits for consent. What it is decided by does
not read the queue. -/
theorem younger_of_parks {s : State} {r q : TRecord} (hs : s.mayExamine) (hne : r.id ≠ q.id)
    (hq : q.stage = .queued) (hqueue : s.queue = [r, q]) :
    (∀ x, s.endsAs q x → (s.port q.station).executing = none →
      arbiterAfter (examineFrom [q.id] s)
        = { s with queue := [r] }.notify q.station (.transitionEnded q.id x))
    ∧ (s.parks q → arbiterAfter (examineFrom [q.id] s)
        = { s with queue := [r, { q with waitingConsent := true }] })
    ∧ (s.grantStays q → s.holdsGrant (arbiterAfter (examineFrom [q.id] s)) [r] q []) := by
  have hrecord : s.record? q.id = some q := by simp [State.record?, hqueue, hne]
  refine ⟨fun x h hidle => ?_, fun h => ?_, fun h => ?_⟩
  · have hleft : s.queue.filter (fun p => p.id != q.id) = [r] := by simp [hqueue, hne]
    rw [examineFrom_cons_passed [] (examine_of_endsAs hrecord hq h hs.2.1 hidle), hleft]
    rfl
  · rw [examineFrom_cons_passed [] (examine_of_parks hrecord hq h)]
    simp [examineFrom, arbiterAfter, State.modRecord, hqueue, hne]
  · obtain ⟨hengine, f, hf, hgranted⟩ := grant_of_grantStays hrecord h.2.2.2
    rw [examineFrom_cons_granted [] (examine_of_grants hrecord hq h.grants),
      arbiterAfter_granted (by rw [hengine]; exact Engine.noConfusion)]
    refine ⟨hengine, f, ?_, hf⟩
    rw [hgranted]
    simp only [State.modRecord, hqueue, List.map_cons, List.map_nil, if_pos, if_neg hne]
    rfl

/-! ## The statement -/

/-- Settles O26: each record by the first case of R71 that applies, the older first. -/
theorem arbiterDecidesTheRecord : Obligations.ArbiterDecidesTheRecord := by
  refine ⟨fun s r hrun hfree hhold hqueue hq _ => ?_,
    fun s r q hrun hfree hhold hqueue hne hr hq _ _ => ?_⟩
  · have hs : s.mayExamine := ⟨hrun, hfree, hhold⟩
    refine ⟨fun hc hidle => arbiter_of_endsAs hs hqueue hq (.inl ⟨rfl, hc⟩) hidle,
      fun hc hconflict hidle => arbiter_of_endsAs hs hqueue hq (.inr (.inl ⟨rfl, hc, hconflict⟩)) hidle,
      fun hc hclear hshared => ⟨fun hallow hidle => arbiter_of_endsAs hs hqueue hq
          (.inr (.inr ⟨rfl, ⟨hc, hclear⟩, hshared, hallow⟩)) hidle,
        fun hallow hdeny => arbiter_of_parks hs hqueue hq ⟨⟨hc, hclear⟩, hallow, hdeny⟩⟩,
      fun hc hmoves => ?_, fun hc hmoves hclear hshared hconsent hcold => ?_⟩
    · obtain ⟨hengine, hstate, hcontactors, hgranted, hcaps, hslot, hnotice, hothers⟩ :=
        arbiter_of_no_moves hs hqueue hq hc hmoves
      refine ⟨hengine, hstate, hcontactors, _, hgranted, rfl, rfl, rfl,
        fun p => ⟨muteOf_of_no_moves hmoves p, sharersOf_of_no_moves hmoves p⟩, fun p hp => ?_⟩
      obtain ⟨htowers, hpattern⟩ := hslot p hp
      refine ⟨?_, htowers, hcaps, hpattern, hnotice, hothers⟩
      simp only [State.provingFlight, State.proofTimeoutOf, hp]
    · have hrecord := record?_of_one hqueue
      obtain ⟨harbiter, hgranted⟩ := arbiter_of_muting hs hqueue hq ⟨⟨hc, hclear⟩, hshared, hconsent⟩
        hmoves hcold
      refine ⟨?_, ?_, ?_, fun p => ?_, fun p => ?_, fun p hp hpresent => ?_, fun p hp => ?_, hgranted⟩
      · rw [harbiter, muting_frame]
      · rw [harbiter, muting_frame]
      · rw [harbiter, muting_frame]
      · rw [harbiter]
        exact muting_port _ _ _ s p
      · rw [harbiter]
        exact muting_conf _ _ _ s p
      · rw [harbiter]
        exact muting_permit_of_mem hrecord _ _ _ hp hpresent
      · rw [harbiter]
        exact muting_permit_of_not_mem _ _ _ s hp
  · have hs : s.mayExamine := ⟨hrun, hfree, hhold⟩
    refine ⟨fun x h hidle => arbiter_of_older_endsAs hs hqueue hne hr hq h hidle, fun h => ?_,
      holdsGrant_of_older hs hqueue hne hr hq⟩
    rw [arbiter_of_older_parks hs hqueue hne hr hq h]
    exact younger_of_parks (s := { s with queue := [{ r with waitingConsent := true }, q] })
      (r := { r with waitingConsent := true }) hs hne hq rfl

end Sys2Proof.Machine
end

section
/-!
SUPPORT. A record that is alone in the Transition Queue: what the engine's writes make of it, and what
its end leaves of the rest of the part (R55).
-/

namespace Sys2Proof.Machine

section Alone
variable {s : State} {r : TRecord} {f : Flight} (h : s.fliesAlone r f)
include h

theorem modFlight_of_alone (g : Flight → Flight) :
    s.modFlight g = { s with queue := [{ r with flight := some (g f) }] } := by
  obtain ⟨hqueue, hengine, hflight⟩ := h
  simp [State.modFlight, State.modGranted, State.modRecord, hqueue, hengine, hflight]

theorem fliesAlone_modFlight (g : Flight → Flight) :
    (s.modFlight g).fliesAlone { r with flight := some (g f) } (g f) := by
  rw [modFlight_of_alone h]
  exact ⟨rfl, h.2.1, rfl⟩

theorem setStage_of_alone (g : Stage) :
    s.setStage g = { s with queue := [{ r with stage := g }] } := by
  obtain ⟨hqueue, hengine, -⟩ := h
  simp [State.setStage, State.modGranted, State.modRecord, hqueue, hengine]

/-- The end of the record frees the engine and leaves an empty queue; of the ports it can reach that of
its station alone. -/
theorem endRecord_frame_of_alone (x : TResult) : s.endRecord r.id x = { s with
    queue := [], engine := .free, ports := (s.endRecord r.id x).ports } := by
  obtain ⟨hqueue, hengine, -⟩ := h
  have hrecord : s.record? r.id = some r := by simp [State.record?, hqueue]
  have hleft : (s.endRecord r.id x).queue = [] := by
    rw [endRecord_queue r.id x s r hrecord, hqueue]
    simp
  have hfree : (s.endRecord r.id x).engine = .free :=
    (endRecord_engine x hrecord).trans (if_pos hengine)
  rw [← hleft, ← hfree]
  exact endRecord_frame r.id x s

theorem endRecord_port_of_ne_of_alone (x : TResult) {q : Station} (hq : q ≠ r.station) :
    (s.endRecord r.id x).port q = s.port q := by
  obtain ⟨hqueue, hengine, -⟩ := h
  have hrecord : s.record? r.id = some r := by simp [State.record?, hqueue]
  rw [endRecord_of_held x hrecord hengine, syncLeft_port_of_ne _ _ hq, State.notify_port, if_neg hq]
  rfl

/-- With no SYNC in execution on its port the record leaves TRANSITION ENDED there. -/
theorem endRecord_port_of_alone (x : TResult) (hidle : (s.port r.station).executing = none) :
    (s.endRecord r.id x).port r.station
      = Port.handed (.transitionEnded r.id x) (s.port r.station) := by
  rw [endRecord_of_alone x h.1 h.2.1 hidle, State.notify_port, if_pos rfl]
  rfl

/-- A moment of the record, while it stands in one of the stages the moment belongs to. -/
theorem flightExpiry_of_alone {stages : List Stage} (g : Flight → Option Nat)
    (hstage : stages.contains r.stage = true) : s.flightExpiry stages g = g f := by
  simp only [State.flightExpiry, h.flying, hstage, if_true]

end Alone

end Sys2Proof.Machine
end

section
/-!
SUPPORT. The end of PROVING (R101 to R103): the requester is STEADY with its towers seeded, and its
record ends, whether the proof has been met or its timer has expired.
-/

namespace Sys2Proof.Machine

/-! ## Seeding (R103) -/

/-- R103: the record of a tower seeded by `g`. -/
def TowerRecord.seeded (g : TowerRecord → Grade) (w : TowerRecord) : TowerRecord :=
  { w with current := g w, escalate := 0, deescalate := 0 }

section Seeding
variable (s : State) (st : Station) (g : TowerRecord → Grade)

/-- The part with a station's towers seeded, before the class is told and the monitor timer starts. -/
def State.withSeeds (st : Station) (g : TowerRecord → Grade) (s : State) : State :=
  s.modConf st (fun c => { c with towers := c.towers.map (TowerRecord.seeded g), lost := false })

theorem seedTowers_eq : s.seedTowers st g
    = (if ((s.withSeeds st g).conf st).stationClass = .inBand then s.withSeeds st g
      else (s.withSeeds st g).notify st
        (.classChanged ((s.withSeeds st g).conf st).stationClass)).startMonitor st := rfl

theorem seedTowers_frame : s.seedTowers st g = { s with
    conformance := (s.seedTowers st g).conformance, ports := (s.seedTowers st g).ports } := by
  rw [seedTowers_eq]
  split <;> rfl

theorem seedTowers_conf : (s.seedTowers st g).conf st
    = ⟨(s.conf st).towers.map (TowerRecord.seeded g),
        some (s.time + 1000 * (s.station st).monitorTimeout), false⟩ := by
  rw [seedTowers_eq, State.startMonitor, State.modConf_conf_same]
  split <;> simp [State.withSeeds]

theorem seedTowers_conf_of_ne {q : Station} (hq : q ≠ st) :
    (s.seedTowers st g).conf q = s.conf q := by
  rw [seedTowers_eq, State.startMonitor, State.modConf_conf_of_ne _ _ hq]
  split <;> simp [State.withSeeds, hq]

/-- CLASS CHANGED names the class of the seeded towers, where it is not IN. -/
theorem seedTowers_port (q : Station) : (s.seedTowers st g).port q
    = if q = st ∧ ((s.seedTowers st g).conf st).stationClass ≠ .inBand then
        Port.handed (.classChanged ((s.seedTowers st g).conf st).stationClass) (s.port q)
      else s.port q := by
  have hclass : ((s.seedTowers st g).conf st).stationClass
      = ((s.withSeeds st g).conf st).stationClass := by
    rw [seedTowers_conf, State.withSeeds, State.modConf_conf_same]
    rfl
  rw [hclass, seedTowers_eq, State.startMonitor, State.modConf_port]
  by_cases hin : ((s.withSeeds st g).conf st).stationClass = .inBand
  · rw [if_pos hin, if_neg fun hq => hq.2 hin]
    rfl
  · rw [if_neg hin, State.notify_port]
    by_cases hq : q = st
    · rw [if_pos hq, if_pos ⟨hq, hin⟩]
      rfl
    · rw [if_neg hq, if_neg fun hn => hq hn.1]
      rfl

end Seeding

/-! ## Classes and caps of a STEADY station (R122, R131) -/

theorem worst_out (x : Grade) : x.worst .out = .out := by
  cases x <;> rfl

/-- Every tower OUT makes the station OUT, if it has a tower. -/
theorem stationClass_of_all_out {c : Conformance} (hne : c.towers ≠ [])
    (hout : ∀ w ∈ c.towers, w.current = .out) : c.stationClass = .out := by
  have hfold : ∀ (ws : List TowerRecord) (x : Grade), (∀ w ∈ ws, w.current = .out) → ws ≠ [] →
      (ws.map TowerRecord.current).foldl Grade.worst x = .out := by
    intro ws
    induction ws with
    | nil => exact fun _ _ hnil => absurd rfl hnil
    | cons w rest ih =>
      intro x hws _
      rw [List.map_cons, List.foldl_cons, hws w List.mem_cons_self, worst_out]
      cases rest with
      | nil => rfl
      | cons v vs => exact ih _ (fun u hu => hws u (List.mem_cons_of_mem w hu)) (List.cons_ne_nil v vs)
  exact hfold c.towers .inBand hout hne

section SteadyCaps
variable {s : State} {q : Station} {n : Fin 4} (hst : (s.station q).state = .steady n)
include hst

theorem formCaps_caution_of_steady :
    (s.formCaps q).caution.applies = true ↔ (s.conf q).stationClass = .caution := by
  simp [State.formCaps, hst, StationState.isSteady]

theorem formCaps_out_of_steady :
    (s.formCaps q).out.applies = true ↔ (s.conf q).stationClass = .out := by
  simp [State.formCaps, hst, StationState.isSteady]

theorem currentPattern_of_steady : s.currentPattern q = s.slot q n := by
  simp [State.currentPattern, hst, StationState.slot]

variable {p : Pattern} (hslot : s.slot q n = some p)
include hslot

theorem formCaps_pattern_of_steady :
    (s.formCaps q).pattern = ⟨true, some p.licensedPower⟩ := by
  simp [State.formCaps, State.patternCap, hst, currentPattern_of_steady hst, hslot]

/-- The OUT cap of a STEADY station whose class is OUT bounds its target. -/
theorem formCaps_target_le_of_out (hclass : (s.conf q).stationClass = .out) :
    (s.formCaps q).target ≤ p.licensedPower * p.outCap / 1000 := by
  refine Caps.target_le_of_active _ .out ?_
  simp [Caps.cap, Cap.active, State.formCaps, hst, hclass, StationState.isSteady,
    currentPattern_of_steady hst, hslot, perMille]

end SteadyCaps

/-! ## The requester becomes STEADY (R101, R102) -/

/-- The requester is STEADY in the target slot, with its towers seeded by `g`. -/
def State.seededSteady (r : TRecord) (g : TowerRecord → Grade) (s : State) : State :=
  (s.setStation r.station (.steady r.target)).seedTowers r.station g

theorem setStation_station (st q : Station) (new : StationState) (s : State) :
    (s.setStation st new).station q
      = if q = st then { s.station q with state := new } else s.station q := by
  rw [setStation_frame]
  exact PerStation.get_modify _ _ _ q

section SeededSteady
variable (s : State) (r : TRecord) (g : TowerRecord → Grade)

theorem seededSteady_frame : s.seededSteady r g = { s with
    stations := s.stations.modify r.station (fun w => { w with state := .steady r.target })
    conformance := (s.seededSteady r g).conformance, ports := (s.seededSteady r g).ports } := by
  unfold State.seededSteady
  rw [seedTowers_frame, setStation_frame]

theorem seededSteady_station (q : Station) : (s.seededSteady r g).station q
    = if q = r.station then { s.station q with state := .steady r.target } else s.station q := by
  rw [State.seededSteady, seedTowers_frame]
  exact setStation_station _ _ _ s

theorem seededSteady_conf : (s.seededSteady r g).conf r.station
    = ⟨(s.conf r.station).towers.map (TowerRecord.seeded g),
        some (s.time + 1000 * (s.station r.station).monitorTimeout), false⟩ := by
  rw [State.seededSteady, seedTowers_conf, setStation_station, if_pos rfl, setStation_frame]
  rfl

theorem seededSteady_conf_of_ne {q : Station} (hq : q ≠ r.station) :
    (s.seededSteady r g).conf q = s.conf q := by
  rw [State.seededSteady, seedTowers_conf_of_ne _ _ _ hq, setStation_frame]
  rfl

theorem seededSteady_port_of_ne {q : Station} (hq : q ≠ r.station) :
    (s.seededSteady r g).port q = s.port q := by
  rw [State.seededSteady, seedTowers_port, if_neg fun h => hq h.1, setStation_port,
    if_neg fun h => hq h.1]

/-- STATION STATE, then CLASS CHANGED where the seeded class is not IN. -/
theorem seededSteady_port (hp : (s.station r.station).present = true)
    (hst : (s.station r.station).state ≠ .steady r.target) :
    (s.seededSteady r g).port r.station
      = if ((s.seededSteady r g).conf r.station).stationClass = .inBand then
          Port.handed (.stationState (.steady r.target)) (s.port r.station)
        else Port.handed (.classChanged ((s.seededSteady r g).conf r.station).stationClass)
          (Port.handed (.stationState (.steady r.target)) (s.port r.station)) := by
  have htold : (s.setStation r.station (.steady r.target)).port r.station
      = Port.handed (.stationState (.steady r.target)) (s.port r.station) :=
    (setStation_port _ _ _ s).trans (if_pos ⟨rfl, hp, hst⟩)
  rw [← htold]
  refine (seedTowers_port _ _ _ _).trans ?_
  by_cases hin : ((s.seededSteady r g).conf r.station).stationClass = .inBand
  · rw [if_pos hin]
    exact if_neg fun hn => hn.2 hin
  · rw [if_neg hin]
    exact if_pos ⟨rfl, hin⟩

/-- No command begins or ends by a seeding. -/
theorem seededSteady_executing (q : Station) :
    ((s.seededSteady r g).port q).executing = (s.port q).executing := by
  rw [State.seededSteady, seedTowers_port, setStation_port]
  split <;> split <;> simp only [Port.handed_executing]

theorem seededSteady_slot : (s.seededSteady r g).slot = s.slot := by
  rw [seededSteady_frame]
  rfl

theorem seededSteady_state_same :
    ((s.seededSteady r g).station r.station).state = .steady r.target := by
  rw [seededSteady_station, if_pos rfl]

end SeededSteady

/-! ## The end of the record (R101, R102) -/

/-- R101 and R102 behind the stop of the proof timer: the record ends with result `x`, its requester
STEADY with towers seeded by `g`. -/
def State.endProof (r : TRecord) (g : TowerRecord → Grade) (x : TResult) (s : State) : State :=
  ((s.seededSteady r g).recompute r.station).endRecord r.id x

/-- The record with its proof timer stopped. -/
def TRecord.proofStopped (f : Flight) (r : TRecord) : TRecord :=
  { r with flight := some { f with proofExpiry := none } }

section EndProof
variable {s : State} {r : TRecord} {f : Flight}

theorem proofDone_of_alone (h : s.fliesAlone r f) : s.proofDone
    = { s with queue := [r.proofStopped f] }.endProof (r.proofStopped f) TowerRecord.raw .done := by
  simp only [State.proofDone, h.flying, modFlight_of_alone h]
  rfl

theorem proofFails_of_alone (h : s.fliesAlone r f) : s.proofFails
    = { s with queue := [r.proofStopped f] }.endProof (r.proofStopped f) (fun _ => .out)
      .failedProof := by
  simp only [State.proofFails, h.flying, modFlight_of_alone h]
  rfl

variable (g : TowerRecord → Grade) (x : TResult)

theorem endProof_station (q : Station) : (s.endProof r g x).station q
    = if q = r.station then { s.station q with state := .steady r.target } else s.station q := by
  rw [← seededSteady_station s r g, State.endProof, endRecord_frame, recompute_frame]
  rfl

theorem endProof_conf (q : Station) :
    (s.endProof r g x).conf q = (s.seededSteady r g).conf q := by
  rw [State.endProof, endRecord_frame, recompute_frame]
  rfl

theorem endProof_permit (q : Station) : (s.endProof r g x).permit q
    = ((s.seededSteady r g).recompute r.station).permit q := by
  rw [State.endProof, endRecord_frame]
  rfl

theorem endProof_permit_of_ne {q : Station} (hq : q ≠ r.station) :
    (s.endProof r g x).permit q = s.permit q := by
  rw [endProof_permit, recompute_permit_of_ne _ _ _ hq, seededSteady_frame]
  rfl

theorem endProof_permit_of_present (hp : (s.station r.station).present = true) :
    (s.endProof r g x).permit r.station = (s.seededSteady r g).recomputedPermit r.station := by
  rw [endProof_permit]
  refine recompute_permit_same ?_
  rw [seededSteady_station, if_pos rfl]
  exact hp

/-- The engine holds the record still as it ends. -/
theorem fliesAlone_seeded_recompute (h : s.fliesAlone r f) :
    ((s.seededSteady r g).recompute r.station).fliesAlone r f := by
  rw [recompute_frame, seededSteady_frame]
  exact h

theorem recompute_seeded_port (q : Station) :
    ((s.seededSteady r g).recompute r.station).port q = (s.seededSteady r g).port q := by
  rw [recompute_frame]
  rfl

variable (h : s.fliesAlone r f)
include h

theorem endProof_frame : s.endProof r g x = { s with
    queue := [], engine := .free, stations := (s.endProof r g x).stations
    conformance := (s.endProof r g x).conformance, permits := (s.endProof r g x).permits
    transmitters := (s.endProof r g x).transmitters, ports := (s.endProof r g x).ports } := by
  unfold State.endProof
  rw [endRecord_frame_of_alone (fliesAlone_seeded_recompute g h), recompute_frame, seededSteady_frame]

theorem endProof_port_of_ne {q : Station} (hq : q ≠ r.station) :
    (s.endProof r g x).port q = s.port q := by
  rw [State.endProof, endRecord_port_of_ne_of_alone (fliesAlone_seeded_recompute g h) x hq,
    recompute_seeded_port, seededSteady_port_of_ne s r g hq]

/-- STATION STATE, CLASS CHANGED where the class is not IN, and TRANSITION ENDED, in this order. -/
theorem endProof_port (hp : (s.station r.station).present = true)
    (hst : (s.station r.station).state ≠ .steady r.target)
    (hidle : (s.port r.station).executing = none) :
    (s.endProof r g x).port r.station = Port.handed (.transitionEnded r.id x)
      (if ((s.endProof r g x).conf r.station).stationClass = .inBand then
        Port.handed (.stationState (.steady r.target)) (s.port r.station)
      else Port.handed (.classChanged ((s.endProof r g x).conf r.station).stationClass)
        (Port.handed (.stationState (.steady r.target)) (s.port r.station))) := by
  have hidle' : (((s.seededSteady r g).recompute r.station).port r.station).executing = none := by
    rw [recompute_seeded_port, seededSteady_executing, hidle]
  rw [endProof_conf, ← seededSteady_port s r g hp hst, State.endProof,
    endRecord_port_of_alone (fliesAlone_seeded_recompute g h) x hidle', recompute_seeded_port]

/-- R101 to R103, R122, R131: `t` is the part once the proof of the record `r`, alone in the queue of
`s`, has ended with result `x`: the requester is STEADY in the target slot with its towers seeded by
`g`, its permit recomputed by the seeded class, and its notices on its port in their order. -/
def State.proofEnds (s t : State) (r : TRecord) (g : TowerRecord → Grade) (x : TResult) : Prop :=
  t = { s with
    queue := [], engine := .free, stations := t.stations, conformance := t.conformance
    permits := t.permits, transmitters := t.transmitters, ports := t.ports }
  ∧ t.station r.station = { s.station r.station with state := .steady r.target }
  ∧ (∀ q, q ≠ r.station → t.station q = s.station q ∧ t.conf q = s.conf q
      ∧ t.permit q = s.permit q ∧ t.port q = s.port q)
  ∧ t.conf r.station = ⟨(s.conf r.station).towers.map (TowerRecord.seeded g),
      some (s.time + 1000 * (s.station r.station).monitorTimeout), false⟩
  ∧ ((s.station r.station).present = true →
      ((t.permit r.station).caps.caution.applies = true ↔ (t.conf r.station).stationClass = .caution)
      ∧ ((t.permit r.station).caps.out.applies = true ↔ (t.conf r.station).stationClass = .out)
      ∧ ∀ p, s.slot r.station r.target = some p →
          (t.permit r.station).caps.pattern = ⟨true, some p.licensedPower⟩
          ∧ ((t.conf r.station).stationClass = .out →
              (t.permit r.station).target ≤ p.licensedPower * p.outCap / 1000))
  ∧ ((s.station r.station).present = true → (s.station r.station).state ≠ .steady r.target →
      (s.port r.station).executing = none →
      t.port r.station = Port.handed (.transitionEnded r.id x)
        (if (t.conf r.station).stationClass = .inBand then
          Port.handed (.stationState (.steady r.target)) (s.port r.station)
        else Port.handed (.classChanged (t.conf r.station).stationClass)
          (Port.handed (.stationState (.steady r.target)) (s.port r.station))))

theorem proofEnds_endProof : s.proofEnds (s.endProof r g x) r g x := by
  have hsteady := seededSteady_state_same s r g
  refine ⟨endProof_frame g x h, (endProof_station g x r.station).trans (if_pos rfl),
    fun q hq => ⟨(endProof_station g x q).trans (if_neg hq),
      (endProof_conf g x q).trans (seededSteady_conf_of_ne s r g hq),
      endProof_permit_of_ne g x hq, endProof_port_of_ne g x h hq⟩,
    (endProof_conf g x _).trans (seededSteady_conf s r g), fun hpresent => ?_,
    endProof_port g x h⟩
  rw [endProof_permit_of_present g x hpresent, endProof_conf]
  refine ⟨formCaps_caution_of_steady hsteady, formCaps_out_of_steady hsteady, fun p hslot => ?_⟩
  rw [← seededSteady_slot s r g] at hslot
  exact ⟨formCaps_pattern_of_steady hsteady hslot, formCaps_target_le_of_out hsteady hslot⟩

theorem proofEnds_proofDone : s.proofEnds s.proofDone r TowerRecord.raw .done := by
  rw [proofDone_of_alone h]
  exact proofEnds_endProof (s := { s with queue := [r.proofStopped f] }) _ _ ⟨rfl, h.2.1, rfl⟩

theorem proofEnds_proofFails : s.proofEnds s.proofFails r (fun _ => .out) .failedProof := by
  rw [proofFails_of_alone h]
  exact proofEnds_endProof (s := { s with queue := [r.proofStopped f] }) _ _ ⟨rfl, h.2.1, rfl⟩

end EndProof

end Sys2Proof.Machine
end

section
/-!
The statements about the end of PROVING: the proof timer expires (R102), or a valid set moves the proof
run, which may reach the proof count (R99 to R101).
-/

namespace Sys2Proof.Machine

/-! ## The proof timer (R102) -/

/-- The proof timer of a record alone in the queue ends it, with nothing left for the arbiter. -/
theorem exec_proofTimerExpiry {s : State} {r : TRecord} {f : Flight} {e : Nat} (hp : s.por = false)
    (h : s.fliesAlone r f) (hstage : r.stage = .proving) (he : f.proofExpiry = some e) :
    exec .proofTimerExpiry s = .next (s.advanceTo e).proofFails := by
  have hexpiry : s.proofExpiry = some e :=
    (flightExpiry_of_alone h Flight.proofExpiry (by rw [hstage]; rfl)).trans he
  have hempty : (s.advanceTo e).proofFails.queue = [] := by
    obtain ⟨hframe, -⟩ := proofEnds_proofFails (s := s.advanceTo e) h
    exact congrArg State.queue hframe
  simp only [exec, execProofTimerExpiry, hexpiry, onExpiry_of_running _ hp,
    thenArbiter_of_empty hempty]

/-- Towers seeded OUT make their station OUT. -/
theorem stationClass_of_seeded_out {c : Conformance} {ws : List TowerRecord} (hne : ws ≠ [])
    (hc : c.towers = ws.map (TowerRecord.seeded fun _ => .out)) : c.stationClass = .out := by
  refine stationClass_of_all_out (by simpa [hc] using hne) fun w hw => ?_
  rw [hc] at hw
  obtain ⟨v, -, rfl⟩ := List.mem_map.mp hw
  rfl

/-- Settles O22: the record ends with the requester STEADY and every tower seeded OUT. -/
theorem proofExpirySeedsOut : Obligations.ProofExpirySeedsOut := by
  intro s r f e hp h hstage he
  obtain ⟨hframe, hstation, hothers, hconf, hcaps, hport⟩ :=
    proofEnds_proofFails (s := s.advanceTo e) h
  refine ⟨_, exec_proofTimerExpiry hp h hstage he, hframe, hstation, hothers, hconf,
    fun hpresent hst hne => ?_⟩
  have hclass := stationClass_of_seeded_out hne (congrArg Conformance.towers hconf)
  obtain ⟨-, hout, hslot⟩ := hcaps hpresent
  refine ⟨hout.mpr hclass, fun p hp => (hslot p hp).2 hclass, fun hidle => ?_⟩
  have hmoved : (s.station r.station).state ≠ .steady r.target := fun hs =>
    StationState.noConfusion (hst.symm.trans hs)
  have hnotices := hport hpresent hmoved hidle
  rw [hclass] at hnotices
  exact hnotices

/-! ## Sample sets in PROVING (R99 to R101) -/

theorem modFlight_slot (s : State) (g : Flight → Flight) : (s.modFlight g).slot = s.slot := by
  rw [modFlight_frame]
  rfl

section Verdict
variable {s : State} {r : TRecord} {f : Flight}

/-- The record with its proof run at `run`. -/
def TRecord.provenFor (run : Nat) (f : Flight) (r : TRecord) : TRecord :=
  { r with flight := some { f with proofRun := run } }

section
variable (h : s.fliesAlone r f) (hstage : r.stage = .proving) {p : Pattern}
  (hslot : s.slot r.station r.target = some p)
include h hstage hslot

/-- R99: a set that fails, or that does not bring the run to the proof count, moves the run alone. -/
theorem takeVerdict_of_short {passing : Bool}
    (hshort : passing = false ∨ f.proofRun + 1 ≠ p.proofCount) :
    s.takeVerdict r.station passing
      = { s with queue := [r.provenFor (if passing then f.proofRun + 1 else 0) f] } := by
  have hnot : (passing && (if passing then f.proofRun + 1 else 0) == p.proofCount) = false := by
    cases passing <;> simp_all
  simp only [State.takeVerdict, h.flying, hstage, modFlight_slot, hslot, hnot, and_self, if_true,
    Bool.false_eq_true, if_false]
  exact modFlight_of_alone h _

/-- R101: a passing set that brings the run to the proof count ends the proof. -/
theorem takeVerdict_of_done (hdone : f.proofRun + 1 = p.proofCount) :
    s.proofEnds (s.takeVerdict r.station true) r TowerRecord.raw .done := by
  have hproof : s.takeVerdict r.station true
      = { s with queue := [r.provenFor (f.proofRun + 1) f] }.proofDone := by
    simp only [State.takeVerdict, h.flying, hstage, modFlight_slot, hslot, and_self, if_true, hdone,
      beq_self_eq_true, Bool.and_self]
    rw [modFlight_of_alone h, ← hdone]
    rfl
  rw [hproof]
  exact proofEnds_proofDone (s := { s with queue := [r.provenFor (f.proofRun + 1) f] })
    (r := r.provenFor (f.proofRun + 1) f) ⟨rfl, h.2.1, rfl⟩

end

end Verdict

/-- R100: the part as a set has been measured against the pattern of its station, behind the return of
the monitor link to hunting. -/
def State.measuredBy (st : Station) (p : Pattern) (ss : List Sample) (s : State) : State :=
  (s.setCollecting .monitor false).modConf st
    (fun c => { c with towers := c.towers.map (measureTower p ss) })

/-- R99: whether no tower of a station is OUT by the set it was measured against. -/
def State.setPasses (st : Station) (s : State) : Bool :=
  (s.conf st).towers.all (fun w => w.raw != .out)

section ProvingSet
variable {s : State} {body : List Byte} {ss : List Sample} {p : Pattern} {r : TRecord} {f : Flight}

theorem measuredBy_conf (st : Station) : (s.measuredBy st p ss).conf st
    = { s.conf st with towers := (s.conf st).towers.map (measureTower p ss) } :=
  State.modConf_conf_same _ _ _

theorem measuredBy_conf_of_ne {st q : Station} (hq : q ≠ st) :
    (s.measuredBy st p ss).conf q = s.conf q :=
  State.modConf_conf_of_ne _ _ hq

/-- R113: a station in PROVING is heard: its record holds no mute. -/
theorem ignoresSet_of_proving (h : s.fliesAlone r f) (hstage : r.stage = .proving)
    (hmode : s.mode = .run) (hpresent : (s.station r.station).present = true)
    (hst : (s.station r.station).state = .proving r.target) : s.ignoresSet r.station = false := by
  simp [State.ignoresSet, State.mutedByStage, h.flying, hstage, Stage.holdsMute, hmode, hpresent, hst,
    StationState.slot]

theorem exec_sampleSet_of_whole (hp : s.por = false) (hfits : bodyFits body = true) :
    exec (.sampleSet body) s
      = .next ((s.setCollecting .monitor false).thenArbiter (State.monitorRecord body)) := by
  simp only [exec, execSampleSet, State.running, hp, State.received, hfits, if_true,
    Bool.false_eq_true, if_false]

/-- R99, R119: a valid set for a requester in PROVING is measured, and its verdict moves the record. -/
theorem monitorRecord_of_proving (hmode : s.mode = .run)
    (hset : sampleSet? body = some (r.station, ss)) (h : s.fliesAlone r f)
    (hstage : r.stage = .proving) (hpresent : (s.station r.station).present = true)
    (hst : (s.station r.station).state = .proving r.target)
    (hslot : s.slot r.station r.target = some p) (hvalid : sampleSetValid p ss = true) :
    (s.setCollecting .monitor false).monitorRecord body
      = (s.measuredBy r.station p ss).takeVerdict r.station
        ((s.measuredBy r.station p ss).setPasses r.station) := by
  have hheard : (s.setCollecting .monitor false).ignoresSet r.station = false :=
    ignoresSet_of_proving (s := s.setCollecting .monitor false) h hstage hmode hpresent hst
  have hpattern : s.currentPattern r.station = some p := by
    simp [State.currentPattern, hst, StationState.slot, hslot]
  have hpattern' : (s.setCollecting .monitor false).currentPattern r.station = some p := hpattern
  have hproving : ((s.setCollecting .monitor false).station r.station).state.isProving = true :=
    congrArg StationState.isProving hst
  simp only [State.monitorRecord, hset, State.takeSampleSet, hheard, hpattern', hvalid, hproving,
    if_true, Bool.false_eq_true, if_false]
  rfl

end ProvingSet

/-- Settles O30: the run is moved, or it has reached the proof count and the record ends. -/
theorem provingSetMovesTheProofRun : Obligations.ProvingSetMovesTheProofRun := by
  intro s body st ss p r f hp hmode hfits hset h hstage hstation hpresent hst hslot hvalid
  subst hstation
  intro measured passing
  let u := s.measuredBy r.station p ss
  have hu : u.fliesAlone r f := h
  have hconf : u.conf r.station = { s.conf r.station with towers := measured } := measuredBy_conf _
  have hverdict : (s.setCollecting .monitor false).monitorRecord body
      = u.takeVerdict r.station passing := by
    rw [monitorRecord_of_proving hmode hset h hstage hpresent hst hslot hvalid, State.setPasses,
      measuredBy_conf]
  rw [exec_sampleSet_of_whole hp hfits]
  by_cases hshort : passing = false ∨ f.proofRun + 1 ≠ p.proofCount
  · rw [takeVerdict_of_short hu hstage hslot hshort] at hverdict
    have hengine : ((s.setCollecting .monitor false).monitorRecord body).engine = s.engine := by
      rw [hverdict]
      rfl
    rw [thenArbiter_of_engine_eq _ _ hengine, hverdict]
    refine ⟨_, rfl, rfl, fun q hq => ⟨rfl, measuredBy_conf_of_ne hq, rfl, rfl⟩,
      fun _ => ⟨rfl, rfl, rfl, rfl, hconf, rfl⟩, fun hpass hdone => ?_⟩
    rcases hshort with hfails | hcount
    · exact absurd (hpass.symm.trans hfails) (by decide)
    · exact absurd hdone hcount
  · obtain ⟨hpass, hdone⟩ := not_or.mp hshort
    rw [eq_true_of_ne_false hpass] at hverdict
    obtain ⟨hframe, hstation, hothers, hends, hcaps, hport⟩ :=
      takeVerdict_of_done hu hstage hslot (not_not.mp hdone)
    obtain ⟨hcaution, -, hpattern⟩ := hcaps hpresent
    have hempty := congrArg State.queue (hverdict.trans hframe)
    have hmoved : (s.station r.station).state ≠ .steady r.target := fun hs =>
      StationState.noConfusion (hst.symm.trans hs)
    rw [thenArbiter_of_empty hempty, hverdict]
    refine ⟨_, rfl, ?_, fun q hq => ?_, fun hshort' => absurd hshort' hshort, fun _ _ => ?_⟩
    · rw [hframe]
      rfl
    · obtain ⟨hstation, hconf, hpermit, hport⟩ := hothers q hq
      exact ⟨hstation, hconf.trans (measuredBy_conf_of_ne hq), hpermit, hport⟩
    · refine ⟨congrArg State.engine hframe, congrArg State.queue hframe, hstation, ?_, hcaution,
        (hpattern p hslot).1, hport hpresent hmoved⟩
      rw [hends, hconf]
      rfl

end Sys2Proof.Machine
end

section
/-!
The statement about the settle expiry: the requester is PROVING in the target slot, and the mute of its
record is released (R96, R98, R78).
-/

namespace Sys2Proof.Machine

/-- R78: a mute's release is said of a state that differs before it by the state, the conformance and
the port of the requester alone. -/
theorem State.muteReleased.of_requester {s s' t : State} {r : TRecord} {f : Flight}
    (h : s'.muteReleased t r f)
    (hpresent : ∀ q, (s'.station q).present = (s.station q).present)
    (hpermits : ∀ q, s'.permit q = s.permit q)
    (hothers : ∀ q, q ≠ r.station →
      s'.station q = s.station q ∧ s'.conf q = s.conf q ∧ s'.port q = s.port q) :
    s.muteReleased t r f := by
  obtain ⟨hreleased, hmuted, hfree, hports⟩ := h
  refine ⟨hreleased, fun q hq hp => ?_, fun q hq => (hfree q hq).trans (hpermits q),
    fun q hq => ?_⟩
  · rw [← hpermits]
    exact hmuted q hq ((hpresent q).trans hp)
  · obtain ⟨hstation, hconf, hport⟩ := hothers q hq
    have hreleasedPort := hports q hq
    rwa [State.monitorRestarted, hstation, hconf, hport] at hreleasedPort

/-! ## The settle expiry (R96) -/

/-- The record in PROVING, its settle timer run out. -/
def TRecord.settled (f : Flight) (r : TRecord) : TRecord :=
  { r with stage := .proving, flight := some { f with settleExpiry := none } }

/-- R96 steps 1 to 3: the requester is PROVING in the target slot with its tower records formed, and
its record is in PROVING. -/
def State.settled (r : TRecord) (f : Flight) (s : State) : State :=
  { (s.setStation r.station (.proving r.target)).formTowers r.station r.target with
    queue := [r.settled f] }

section Settled
variable (s : State) (r : TRecord) (f : Flight)

theorem settled_frame : s.settled r f = { s with
    queue := [r.settled f]
    stations := s.stations.modify r.station (fun w => { w with state := .proving r.target })
    conformance := (s.settled r f).conformance, ports := (s.settled r f).ports } := by
  unfold State.settled
  rw [setStation_frame]
  rfl

theorem settled_station (q : Station) : (s.settled r f).station q
    = if q = r.station then { s.station q with state := .proving r.target } else s.station q :=
  setStation_station r.station q _ s

theorem settled_permit (q : Station) : (s.settled r f).permit q = s.permit q := by
  rw [settled_frame]
  rfl

theorem settled_conf {p : Pattern} (hslot : s.slot r.station r.target = some p) :
    (s.settled r f).conf r.station
      = ⟨p.towers.map (fun l => TowerRecord.formed l.tower), none, false⟩ := by
  have hslot' : (s.setStation r.station (.proving r.target)).slot r.station r.target = some p := by
    rw [setStation_frame]
    exact hslot
  refine (State.modConf_conf_same _ _ _).trans ?_
  rw [hslot']

theorem settled_conf_of_ne {q : Station} (hq : q ≠ r.station) :
    (s.settled r f).conf q = s.conf q := by
  refine (State.modConf_conf_of_ne _ _ hq).trans ?_
  rw [setStation_frame]
  rfl

theorem settled_port (q : Station) : (s.settled r f).port q
    = if q = r.station ∧ (s.station r.station).present = true
        ∧ (s.station r.station).state ≠ .proving r.target then
        Port.handed (.stationState (.proving r.target)) (s.port q)
      else s.port q :=
  setStation_port r.station q _ s

theorem settledReleased_frame : (s.settled r f).releaseMute = { s with
    queue := (s.settled r f).releaseMute.queue
    stations := s.stations.modify r.station (fun w => { w with state := .proving r.target })
    conformance := (s.settled r f).releaseMute.conformance
    permits := (s.settled r f).releaseMute.permits
    transmitters := (s.settled r f).releaseMute.transmitters
    ports := (s.settled r f).releaseMute.ports } := by
  rw [releaseMute_frame, settled_frame]

end Settled

section Settles
variable {s : State} {r : TRecord} {f : Flight} (h : s.fliesAlone r f)
include h

theorem fliesAlone_setStation (st : Station) (new : StationState) :
    (s.setStation st new).fliesAlone r f := by
  rw [setStation_frame]
  exact h

theorem fliesAlone_settled :
    (s.settled r f).fliesAlone (r.settled f) { f with settleExpiry := none } :=
  ⟨rfl, (fliesAlone_setStation h _ _).2.1, rfl⟩

theorem settleExpires_of_alone :
    s.settleExpires = (s.settled r f).releaseMute.startProof r.station r.target := by
  let u := (s.setStation r.station (.proving r.target)).formTowers r.station r.target
  have hu : u.fliesAlone r f := fliesAlone_setStation h _ _
  have hrecord : (u.modFlight (fun f => { f with settleExpiry := none })).setStage .proving
      = s.settled r f := by
    rw [setStage_of_alone (fliesAlone_modFlight hu _), modFlight_of_alone hu]
    rfl
  rw [← hrecord]
  simp only [State.settleExpires, h.flying]
  rfl

/-- The release of the mute is marked in the record. -/
theorem releaseMute_queue_of_alone :
    s.releaseMute.queue = [{ r with flight := some { f with mutePlaced := false } }] := by
  rw [releaseMute_queue h.flying, State.unmuted, modFlight_of_alone h]

theorem fliesAlone_releaseMute : s.releaseMute.fliesAlone
    { r with flight := some { f with mutePlaced := false } } { f with mutePlaced := false } := by
  refine ⟨releaseMute_queue_of_alone h, ?_, rfl⟩
  rw [releaseMute_frame]
  exact h.2.1

/-- R76, R96: the settle expiry, with the proof timer started on the target slot. -/
theorem settleExpires_eq {p : Pattern} (hslot : s.slot r.station r.target = some p) :
    s.settleExpires = { (s.settled r f).releaseMute with queue := [{ r with
      stage := .proving
      flight := some { f with
        settleExpiry := none, mutePlaced := false, proofRun := 0
        proofExpiry := some (s.time + 1000 * p.proofTimeout) } }] } := by
  have hframe := settledReleased_frame s r f
  have hslot' : (s.settled r f).releaseMute.slot r.station r.target = some p := by
    rw [hframe]
    exact hslot
  have htime : (s.settled r f).releaseMute.time = s.time := by rw [hframe]
  rw [settleExpires_of_alone h, startProof_eq, State.proofTimeoutOf, hslot', htime,
    modFlight_of_alone (fliesAlone_releaseMute (fliesAlone_settled h))]
  rfl

/-- The tower records that have been formed stand through the release: the requester is not
STEADY. -/
theorem settledReleased_conf {p : Pattern} (hslot : s.slot r.station r.target = some p) :
    (s.settled r f).releaseMute.conf r.station
      = ⟨p.towers.map (fun l => TowerRecord.formed l.tower), none, false⟩ := by
  have hst : ((s.settled r f).station r.station).state.isSteady = false := by
    rw [settled_station, if_pos rfl]
    rfl
  rw [← settled_conf s r f hslot]
  refine (releaseMute_conf (fliesAlone_settled h).flying r.station).trans (if_neg ?_)
  simp [hst]

theorem settleExpires_muteHolds (q : Station) : s.settleExpires.muteHolds q = false := by
  rw [settleExpires_of_alone h, startProof_eq]
  exact muteHolds_of_flying
    (flying_modFlight _ (fliesAlone_releaseMute (fliesAlone_settled h)).flying) q

/-- R78: the release, said of the part before the expiry. -/
theorem muteReleased_settleExpires {p : Pattern} (hslot : s.slot r.station r.target = some p) :
    s.muteReleased s.settleExpires r f := by
  have hreleased := muteReleased_releaseMute (fliesAlone_settled h).flying
  have hmute := settleExpires_muteHolds h
  rw [settleExpires_eq h hslot] at hmute ⊢
  refine State.muteReleased.of_requester (s' := s.settled r f) ?_ (fun q => ?_)
    (settled_permit s r f) (fun q hq => ⟨(settled_station s r f q).trans (if_neg hq),
      settled_conf_of_ne s r f hq, (settled_port s r f q).trans (if_neg fun hn => hq hn.1)⟩)
  · exact hreleased.congr rfl (fun _ _ => rfl) rfl (fun _ _ => rfl) hmute
  · rw [settled_station]
    split <;> rfl

/-- R96, R98, R78: the settle expiry of a record alone in the queue. -/
theorem provesAfterSettle_settleExpires {p : Pattern} (hslot : s.slot r.station r.target = some p) :
    s.provesAfterSettle s.settleExpires r f f p := by
  have hframe := settledReleased_frame s r f
  have hmute := muteReleased_settleExpires h hslot
  have hflying := (fliesAlone_settled h).flying
  rw [settleExpires_eq h hslot] at hmute ⊢
  refine ⟨?_, rfl, ?_, fun q hq => ?_, settledReleased_conf h hslot, hmute,
    fun hshared hpresent hst => ?_⟩
  · rw [hframe]
  · change (s.settled r f).releaseMute.station r.station = _
    rw [hframe]
    exact PerStation.get_modify_same _ _ _
  · change (s.settled r f).releaseMute.station q = _
    rw [hframe]
    exact PerStation.get_modify_of_ne _ _ _ hq
  · refine (releaseMute_port hflying r.station).trans ((if_neg ?_).trans
      ((settled_port s r f r.station).trans (if_pos ⟨rfl, hpresent, hst⟩)))
    simp [hshared]

end Settles

/-- Settles O21: the settle timer of a record alone in the queue, at its moment. -/
theorem settleExpiryStartsTheProof : Obligations.SettleExpiryStartsTheProof := by
  intro s r f e p hp h hstage he hslot
  have hexpiry : s.settleExpiry = some e :=
    (flightExpiry_of_alone h Flight.settleExpiry (by rw [hstage]; rfl)).trans he
  refine ⟨(s.advanceTo e).settleExpires, ?_,
    provesAfterSettle_settleExpires (s := s.advanceTo e) h hslot⟩
  simp only [exec, execSettleTimerExpiry, hexpiry, onExpiry_of_running _ hp]

end Sys2Proof.Machine
end

section
/-!
The statement about the arithmetic of a tower (R115 to R118), and what persistence makes of a
tower's record in each of its cases (R121).
-/

namespace Sys2Proof.Machine

/-! ## The ratio (R115) -/

theorem ratioOf_of_le {a r : Nat} (h : a * 1000 / r ≤ 4000) :
    ratioOf a r = (a * 1000 / r, false) :=
  if_neg (Nat.not_lt.mpr h)

theorem ratioOf_of_lt {a r : Nat} (h : 4000 < a * 1000 / r) : ratioOf a r = (4000, true) :=
  if_pos h

theorem ratioOf_le (a r : Nat) : (ratioOf a r).1 ≤ 4000 := by
  rcases le_or_gt (a * 1000 / r) 4000 with h | h
  · rwa [ratioOf_of_le h]
  · rw [ratioOf_of_lt h]

theorem ratioOf_zero (r : Nat) : ratioOf 0 r = (0, false) := by
  simp [ratioOf]

/-- The reference tower's own ratio. -/
theorem ratioOf_self {r : Nat} (hr : 0 < r) : ratioOf r r = (1000, false) := by
  have hq : r * 1000 / r = 1000 := Nat.mul_div_cancel_left 1000 hr
  rw [ratioOf_of_le (by omega), hq]

/-! ## The ratio deviation (R116) -/

theorem ratioDeviation_of_le {ratio l : Nat} (h : (((ratio : Int) - l) * 1000).tdiv l ≤ 9999) :
    ratioDeviation ratio l = (((ratio : Int) - l) * 1000).tdiv l :=
  if_neg (Int.not_lt.mpr h)

theorem ratioDeviation_of_lt {ratio l : Nat} (h : 9999 < (((ratio : Int) - l) * 1000).tdiv l) :
    ratioDeviation ratio l = 9999 :=
  if_pos h

theorem ratioDeviation_le (ratio l : Nat) : ratioDeviation ratio l ≤ 9999 := by
  rcases le_or_gt ((((ratio : Int) - l) * 1000).tdiv l) 9999 with h | h
  · rwa [ratioDeviation_of_le h]
  · rw [ratioDeviation_of_lt h]

theorem tdiv_of_zero_ratio {l : Nat} (hl : 0 < l) :
    ((((0 : Nat) : Int) - l) * 1000).tdiv l = -1000 := by
  have hnum : (((0 : Nat) : Int) - l) * 1000 = l * (-1000) := by ring
  rw [hnum]
  exact Int.mul_tdiv_cancel_left _ (by omega)

/-- A tower without a signal lies a whole licensed ratio below its licence. -/
theorem ratioDeviation_zero {l : Nat} (hl : 0 < l) : ratioDeviation 0 l = -1000 := by
  have hd := tdiv_of_zero_ratio hl
  rw [ratioDeviation_of_le (by omega), hd]

/-- No deviation lies below that of the ratio 0: truncation toward zero is monotone. -/
theorem le_ratioDeviation (ratio : Nat) {l : Nat} (hl : 0 < l) :
    -1000 ≤ ratioDeviation ratio l := by
  rcases le_or_gt ((((ratio : Int) - l) * 1000).tdiv l) 9999 with h | h
  · rw [ratioDeviation_of_le h, ← tdiv_of_zero_ratio hl]
    exact Int.tdiv_le_tdiv (by omega) (by omega)
  · rw [ratioDeviation_of_lt h]
    omega

/-! ## The phase deviation (R117) -/

theorem phaseDeviation_of_gt {ph l : Nat} (h : 1800 < (ph : Int) - l) :
    phaseDeviation ph l = (ph : Int) - l - 3600 :=
  if_pos h

theorem phaseDeviation_of_le {ph l : Nat} (h : (ph : Int) - l ≤ -1800) :
    phaseDeviation ph l = (ph : Int) - l + 3600 :=
  (if_neg (by omega)).trans (if_pos h)

theorem phaseDeviation_of_mem {ph l : Nat} (hlow : -1800 < (ph : Int) - l)
    (hhigh : (ph : Int) - l ≤ 1800) : phaseDeviation ph l = (ph : Int) - l :=
  (if_neg (by omega)).trans (if_neg (by omega))

theorem phaseDeviation_mem {ph l : Nat} (hph : ph ≤ 3599) (hl : l ≤ 3599) :
    -1799 ≤ phaseDeviation ph l ∧ phaseDeviation ph l ≤ 1800 := by
  rcases lt_or_ge 1800 ((ph : Int) - l) with hhigh | hhigh
  · rw [phaseDeviation_of_gt hhigh]
    omega
  · rcases lt_or_ge (-1800) ((ph : Int) - l) with hlow | hlow
    · rw [phaseDeviation_of_mem hlow hhigh]
      omega
    · rw [phaseDeviation_of_le hlow]
      omega

/-! ## The raw class (R118) -/

theorem rawClass_eq_out {p : Pattern} {dr dp : Int} :
    rawClass p dr dp = .out ↔ p.ratioOut < dr.natAbs ∨ p.phaseOut < dp.natAbs := by
  unfold rawClass
  split
  · next hout => exact iff_of_true rfl hout
  · next hout => split <;> exact iff_of_false (by decide) hout

/-- The bands are nested: a tower within the caution bands lies within the out bands. -/
theorem rawClass_eq_inBand {p : Pattern} {dr dp : Int} (hr : p.ratioCaution ≤ p.ratioOut)
    (hp : p.phaseCaution ≤ p.phaseOut) :
    rawClass p dr dp = .inBand ↔ dr.natAbs ≤ p.ratioCaution ∧ dp.natAbs ≤ p.phaseCaution := by
  unfold rawClass
  split
  · next hout => exact iff_of_false (by decide) (by omega)
  · split
    · next hcaution => exact iff_of_false (by decide) (by omega)
    · next hcaution => exact iff_of_true rfl (by omega)

/-- Settles O49: the laws of the four figures, and `TowerRecord.measure` written out. -/
theorem towerArithmetic : Obligations.TowerArithmetic := by
  refine ⟨fun a r hr => ⟨ratioOf_of_le, ratioOf_of_lt, ratioOf_self hr, ratioOf_zero r,
      ratioOf_le a r⟩,
    fun ratio l hl _ => ⟨ratioDeviation_of_le, ratioDeviation_of_lt, ratioDeviation_zero hl,
      by decide, le_ratioDeviation ratio hl, ratioDeviation_le ratio l⟩,
    fun ph l hph hl => ?_,
    fun p dr dp hr hp => ⟨rawClass_eq_out, rawClass_eq_inBand hr hp,
      (rawClass_eq_inBand hr hp).mpr ⟨Nat.zero_le _, Nat.zero_le _⟩⟩,
    fun p reference l x w => rfl⟩
  obtain ⟨hlow, hhigh⟩ := phaseDeviation_mem hph hl
  exact ⟨phaseDeviation_of_gt, phaseDeviation_of_le, phaseDeviation_of_mem, hlow, hhigh, by decide⟩

/-! ## Persistence (R121) -/

section Persistence
variable {w : TowerRecord} {e d : Nat}

theorem persist_of_eq (h : w.raw = w.current) :
    w.persist e d = { w with escalate := 0, deescalate := 0 } := by
  simp [TowerRecord.persist, Grade.worse, h]

theorem persist_of_worse (h : w.current.rank < w.raw.rank) :
    w.persist e d = if w.escalate + 1 = e then
        { w with current := w.raw, escalate := 0, deescalate := 0 }
      else { w with escalate := w.escalate + 1, deescalate := 0 } := by
  simp [TowerRecord.persist, Grade.worse, h]

theorem persist_of_better (h : w.raw.rank < w.current.rank) :
    w.persist e d = if w.deescalate + 1 = d then
        { w with current := w.raw, escalate := 0, deescalate := 0 }
      else { w with escalate := 0, deescalate := w.deescalate + 1 } := by
  simp [TowerRecord.persist, Grade.worse, h, Nat.lt_asymm h]

end Persistence

end Sys2Proof.Machine
end

section
/-!
The statement about the timers of a station: the monitor timer (R123) and the ramp tick (R134).
-/

namespace Sys2Proof.Machine

/-! ## The monitor timer (R123) -/

/-- R131: the MONITOR cap of a STEADY station whose flag is set bounds its target. -/
theorem formCaps_target_le_of_lost {s : State} {st : Station} {p : Pattern}
    (hst : (s.station st).state.isSteady = true) (hlost : (s.conf st).lost = true)
    (hp : s.currentPattern st = some p) :
    (s.formCaps st).target ≤ p.licensedPower * p.cautionCap / 1000 := by
  refine Caps.target_le_of_active _ .monitor ?_
  simp [Caps.cap, Cap.active, State.formCaps, hst, hlost, hp, perMille]

/-- R123: the part as a monitor timer has expired, before the recomputation. -/
def State.monitorLost (st : Station) (s : State) : State :=
  (s.modConf st (fun c => { c with lost := true, monitorExpiry := none })).notify st
    (.monitorState false)

section MonitorExpiry
variable (s : State) (st : Station)

theorem monitorExpires_eq : s.monitorExpires st = (s.monitorLost st).recompute st := rfl

theorem monitorLost_conf :
    (s.monitorLost st).conf st = { s.conf st with lost := true, monitorExpiry := none } :=
  State.modConf_conf_same _ _ _

theorem monitorExpires_frame : s.monitorExpires st = { s with
    conformance := (s.monitorExpires st).conformance, permits := (s.monitorExpires st).permits
    transmitters := (s.monitorExpires st).transmitters, ports := (s.monitorExpires st).ports } := by
  rw [monitorExpires_eq, recompute_frame]
  rfl

theorem monitorExpires_conf (q : Station) :
    (s.monitorExpires st).conf q = (s.monitorLost st).conf q := by
  rw [monitorExpires_eq, recompute_frame]
  rfl

theorem monitorExpires_port (q : Station) : (s.monitorExpires st).port q
    = if q = st then Port.handed (.monitorState false) (s.port q) else s.port q := by
  rw [monitorExpires_eq, recompute_frame]
  exact State.notify_port _ st q _

/-- Another station sees nothing of the expiry. -/
theorem monitorExpires_of_ne {q : Station} (hq : q ≠ st) :
    (s.monitorExpires st).conf q = s.conf q ∧ (s.monitorExpires st).permit q = s.permit q
      ∧ (s.monitorExpires st).port q = s.port q
      ∧ (s.monitorExpires st).transmitter q = s.transmitter q := by
  refine ⟨?_, recompute_permit_of_ne st q _ hq, ?_, recompute_transmitter_of_ne st q _ hq⟩
  · rw [monitorExpires_conf]
    exact State.modConf_conf_of_ne _ _ hq
  · rw [monitorExpires_port, if_neg hq]

theorem monitorExpires_target_le {p : Pattern} (hpresent : (s.station st).present = true)
    (hst : (s.station st).state.isSteady = true) (hp : s.currentPattern st = some p) :
    ((s.monitorExpires st).permit st).target ≤ p.licensedPower * p.cautionCap / 1000 := by
  rw [monitorExpires_eq, recompute_permit_same (s := s.monitorLost st) hpresent]
  refine formCaps_target_le_of_lost (s := s.monitorLost st) hst ?_ hp
  rw [monitorLost_conf]

end MonitorExpiry

/-! ## The ramp tick (R134) -/

/-- The output of a station after a ramp tick. -/
def State.rampedOutput (s : State) (st : Station) : Nat :=
  (s.permit st).output + min (s.station st).rampStep ((s.permit st).target - (s.permit st).output)

/-- R134, R137: the permit of a station after a ramp tick. -/
def State.ramped (s : State) (st : Station) : Permit :=
  let status := s.clipStatus st (s.permit st).caps (s.permit st).target (s.rampedOutput st)
  { s.permit st with
    output := s.rampedOutput st
    rampExpiry := if s.rampedOutput st = (s.permit st).target then none else some (s.time + 100)
    status := status
    log := (s.permit st).log.union status }

section RampTick
variable (s : State) (st : Station)

theorem tickRamp_permit : (s.tickRamp st).permit st = s.ramped st :=
  State.modPermit_permit_same _ _ _

theorem tickRamp_transmitter :
    (s.tickRamp st).transmitter st = (s.transmitter st).makePermit (s.rampedOutput st) :=
  State.modTransmitter_transmitter_same _ _ _

/-- Another station sees nothing of the tick. -/
theorem tickRamp_of_ne {q : Station} (hq : q ≠ st) :
    (s.tickRamp st).permit q = s.permit q ∧ (s.tickRamp st).transmitter q = s.transmitter q :=
  ⟨State.modPermit_permit_of_ne _ _ hq, State.modTransmitter_transmitter_of_ne _ _ hq⟩

/-- R137: RAMP is in the status exactly while the output lies below the target. -/
theorem ramped_status_ramp :
    (s.ramped st).status.ramp = true ↔ (s.ramped st).output < (s.ramped st).target :=
  decide_eq_true_iff

end RampTick

/-- Settles O24: each expiry is its operation at the timer's moment. -/
theorem stationTimersAct : Obligations.StationTimersAct := by
  intro s st e hp
  let u := s.advanceTo e
  refine ⟨fun he hpresent => ⟨u.monitorExpires st, ?_, monitorExpires_frame u st, ?_, ?_, ?_, ?_⟩,
    fun he => ⟨u.tickRamp st, ?_, rfl, ?_⟩⟩
  · simp only [exec, execMonitorTimerExpiry, he, onExpiry_of_running _ hp]
    rfl
  · rw [monitorExpires_conf]
    exact monitorLost_conf u st
  · rw [monitorExpires_port, if_pos rfl]
    rfl
  · exact fun q hq => monitorExpires_of_ne u st hq
  · exact fun hst p hpattern => monitorExpires_target_le u st hpresent hst hpattern
  · simp only [exec, execRampTick, he, onExpiry_of_running _ hp]
    rfl
  · rw [tickRamp_permit, tickRamp_transmitter]
    exact ⟨rfl, rfl, rfl, rfl, rfl, rfl, ramped_status_ramp u st, rfl,
      fun q hq => tickRamp_of_ne u st hq⟩

end Sys2Proof.Machine
end

section
/-!
The statements about sample sets: those that are not taken (R112 to R114), and a valid set for a
STEADY station (R120, R124).
-/

namespace Sys2Proof.Machine

/-! ## Sets that are not taken (R112 to R114) -/

/-- R113: what a set is ignored for. -/
theorem ignoresSet_iff (s : State) (st : Station) : s.ignoresSet st = true ↔
    s.mode = .config ∨ (s.station st).present = false ∨ (s.station st).state.slot = none
      ∨ s.mutedByStage st = true := by
  simp [State.ignoresSet, or_assoc]

theorem present_of_heard {s : State} {st : Station} (h : s.ignoresSet st = false) :
    (s.station st).present = true := by
  cases hpresent : (s.station st).present with
  | true => rfl
  | false =>
    have hignored := (ignoresSet_iff s st).mpr (.inr (.inl hpresent))
    exact absurd (h.symm.trans hignored) (by decide)

theorem ignoresSet_of_muted {s : State} {st : Station} {r : TRecord} {f : Flight}
    (hflying : s.flying = some (r, f)) (hmember : f.muteSet.has st = true)
    (hstage : r.stage = .muting ∨ r.stage = .moving ∨ r.stage = .settling ∨ r.stage = .aborting) :
    s.ignoresSet st = true := by
  have hholds : r.stage.holdsMute = true := by
    rcases hstage with h | h | h | h <;> rw [h] <;> rfl
  refine (ignoresSet_iff s st).mpr (.inr (.inr (.inr ?_)))
  simp [State.mutedByStage, hflying, hholds, hmember]

section TakeSampleSet
variable {s : State} {st : Station} {p : Pattern} {ss : List Sample}

theorem takeSampleSet_of_ignored (h : s.ignoresSet st = true) : s.takeSampleSet st ss = s :=
  if_pos h

theorem takeSampleSet_of_invalid (hheard : s.ignoresSet st = false)
    (hp : s.currentPattern st = some p) (hvalid : sampleSetValid p ss = false) :
    s.takeSampleSet st ss = s.countInvalid st := by
  simp [State.takeSampleSet, hheard, hp, hvalid]

theorem takeSampleSet_of_steady {n : Fin 4} (hheard : s.ignoresSet st = false)
    (hst : (s.station st).state = .steady n) (hp : s.currentPattern st = some p)
    (hvalid : sampleSetValid p ss = true) : s.takeSampleSet st ss = s.steadySet st p ss := by
  simp [State.takeSampleSet, hheard, hp, hvalid, hst, StationState.isProving]

end TakeSampleSet

section ExecSampleSet
variable {s : State} {body : List Byte} (hp : s.por = false)
include hp

/-- R151: a body of a wrong length is discarded whole. -/
theorem exec_sampleSet_of_unfit (hfits : bodyFits body = false) :
    exec (.sampleSet body) s = .next (s.discardRecord .monitor) := by
  simp [exec, execSampleSet, State.running, hp, State.received, hfits]

/-- R153: a whole record that is no sample set is discarded like one of a wrong length. -/
theorem exec_sampleSet_of_undecodable (hfits : bodyFits body = true)
    (hset : sampleSet? body = none) :
    exec (.sampleSet body) s = .next (s.discardRecord .monitor) := by
  have hrecord :
      (s.setCollecting .monitor false).monitorRecord body = s.discardRecord .monitor := by
    simp only [State.monitorRecord, hset]
    rfl
  rw [exec_sampleSet_of_whole hp hfits, thenArbiter_of_engine_eq _ _ (by rw [hrecord]; rfl),
    hrecord]

/-- A sample set that leaves the engine as it is has no arbiter's run behind it. -/
theorem exec_sampleSet_of_set {st : Station} {ss : List Sample} {t : State}
    (hfits : bodyFits body = true) (hset : sampleSet? body = some (st, ss))
    (ht : (s.setCollecting .monitor false).takeSampleSet st ss = t)
    (hengine : t.engine = s.engine) :
    exec (.sampleSet body) s = .next t := by
  have hrecord : (s.setCollecting .monitor false).monitorRecord body = t := by
    simp only [State.monitorRecord, hset, ht]
  rw [exec_sampleSet_of_whole hp hfits,
    thenArbiter_of_engine_eq _ _ ((congrArg State.engine hrecord).trans hengine), hrecord]

end ExecSampleSet

/-- Settles O28: by what the record is turned away for. -/
theorem sampleSetsNotTaken : Obligations.SampleSetsNotTaken := by
  intro s body hp
  refine ⟨fun hbad => ?_, fun st ss hfits hset => ⟨fun hignored => ?_,
    fun p hheard hpattern hvalid => ?_⟩⟩
  · cases hfits : bodyFits body with
    | false => exact exec_sampleSet_of_unfit hp hfits
    | true =>
      rw [hfits] at hbad
      exact exec_sampleSet_of_undecodable hp hfits (hbad.resolve_left (by decide))
  · have hignores : s.ignoresSet st = true := by
      rcases hignored with h | h | h | h | ⟨r, f, hflying, hmember, hstage⟩
      · exact (ignoresSet_iff s st).mpr (.inl h)
      · exact (ignoresSet_iff s st).mpr (.inr (.inl h))
      · exact (ignoresSet_iff s st).mpr (.inr (.inr (.inl (by rw [h]; rfl))))
      · exact (ignoresSet_iff s st).mpr (.inr (.inr (.inl (by rw [h]; rfl))))
      · exact ignoresSet_of_muted hflying hmember hstage
    exact exec_sampleSet_of_set hp hfits hset (takeSampleSet_of_ignored hignores) rfl
  · exact exec_sampleSet_of_set hp hfits hset (takeSampleSet_of_invalid hheard hpattern hvalid) rfl

/-! ## A valid set for a STEADY station (R120) -/

/-- R120 step 3, R121: a tower's record as a valid set brings it forward. -/
def State.bringForward (s : State) (st : Station) (p : Pattern) (ss : List Sample)
    (w : TowerRecord) : TowerRecord :=
  (measureTower p ss w).persist (s.station st).escalate (s.station st).deescalate

/-- R120 step 3: the part as a valid set has restarted the monitor timer and brought the towers
forward. -/
def State.setMeasured (st : Station) (p : Pattern) (ss : List Sample) (s : State) : State :=
  (s.heardMonitor st).modConf st
    (fun c => { c with towers := c.towers.map (s.bringForward st p ss) })

/-- R120 step 4: CLASS CHANGED when the station class is another than `old`. -/
def State.tellClass (st : Station) (old : Grade) (s : State) : State :=
  if (s.conf st).stationClass = old then s
  else s.notify st (.classChanged (s.conf st).stationClass)

/-- R120 steps 1 to 4: the part as a valid set has been taken, before the recomputation. -/
def State.setTaken (st : Station) (p : Pattern) (ss : List Sample) (s : State) : State :=
  (s.setMeasured st p ss).tellClass st (s.conf st).stationClass

theorem tellClass_frame (st : Station) (old : Grade) (s : State) :
    s.tellClass st old = { s with ports := (s.tellClass st old).ports } := by
  unfold State.tellClass
  split <;> rfl

section SteadySet
variable (s : State) (st : Station) (p : Pattern) (ss : List Sample)

/-- R120 steps 1 and 2, in the Conformance Unit and on the port. -/
theorem heardMonitor_frame : s.heardMonitor st = { s with
    conformance := s.conformance.modify st (fun c => { c with
      monitorExpiry := some (s.time + 1000 * (s.station st).monitorTimeout), lost := false })
    ports := (s.heardMonitor st).ports } := by
  have hconf : (s.startMonitor st).modConf st (fun c => { c with lost := false }) = { s with
      conformance := s.conformance.modify st (fun c => { c with
        monitorExpiry := some (s.time + 1000 * (s.station st).monitorTimeout)
        lost := false }) } := by
    simp only [State.startMonitor, State.modConf, PerStation.modify_modify]
  unfold State.heardMonitor
  dsimp only
  rw [hconf]
  split <;> rfl

theorem heardMonitor_conf (q : Station) : (s.heardMonitor st).conf q
    = if q = st then { s.conf q with
        monitorExpiry := some (s.time + 1000 * (s.station st).monitorTimeout), lost := false }
      else s.conf q := by
  rw [heardMonitor_frame]
  exact PerStation.get_modify _ _ _ _

theorem heardMonitor_port (q : Station) : (s.heardMonitor st).port q
    = if q = st ∧ (s.conf st).lost = true then Port.handed (.monitorState true) (s.port q)
      else s.port q := by
  unfold State.heardMonitor
  dsimp only
  split
  · next hlost =>
    simp only [State.notify_port, hlost, and_true]
    rfl
  · next hlost =>
    rw [if_neg fun h => hlost h.2]
    rfl

theorem setMeasured_conf : (s.setMeasured st p ss).conf st
    = ⟨(s.conf st).towers.map (s.bringForward st p ss),
    some (s.time + 1000 * (s.station st).monitorTimeout), false⟩ := by
  refine (State.modConf_conf_same _ _ _).trans ?_
  rw [heardMonitor_conf, if_pos rfl]

theorem setTaken_frame : s.setTaken st p ss = { s with
    conformance := (s.setTaken st p ss).conformance, ports := (s.setTaken st p ss).ports } := by
  unfold State.setTaken
  rw [tellClass_frame, State.setMeasured, heardMonitor_frame]
  rfl

theorem setTaken_conf (q : Station) :
    (s.setTaken st p ss).conf q = (s.setMeasured st p ss).conf q := by
  rw [State.setTaken, tellClass_frame]
  rfl

theorem setTaken_conf_same : (s.setTaken st p ss).conf st
    = ⟨(s.conf st).towers.map (s.bringForward st p ss),
    some (s.time + 1000 * (s.station st).monitorTimeout), false⟩ :=
  (setTaken_conf s st p ss st).trans (setMeasured_conf s st p ss)

/-- Another station sees nothing of the set. -/
theorem setTaken_of_ne {q : Station} (hq : q ≠ st) :
    (s.setTaken st p ss).conf q = s.conf q ∧ (s.setTaken st p ss).port q = s.port q := by
  refine ⟨?_, ?_⟩
  · rw [setTaken_conf]
    refine (State.modConf_conf_of_ne _ _ hq).trans ?_
    rw [heardMonitor_conf, if_neg hq]
  · have hport : (s.setMeasured st p ss).port q = s.port q := by
      refine (heardMonitor_port s st q).trans (if_neg ?_)
      exact fun h => hq h.1
    rw [← hport, State.setTaken, State.tellClass]
    split
    · rfl
    · rw [State.notify_port, if_neg hq]

/-- R120, R124: the notices, MONITOR STATE before CLASS CHANGED. -/
theorem setTaken_port : (s.setTaken st p ss).port st
    = if ((s.setTaken st p ss).conf st).stationClass = (s.conf st).stationClass then
        (s.heardMonitor st).port st
      else Port.handed (.classChanged ((s.setTaken st p ss).conf st).stationClass)
        ((s.heardMonitor st).port st) := by
  rw [setTaken_conf, State.setTaken, State.tellClass]
  split
  · rfl
  · rw [State.notify_port, if_pos rfl]
    rfl

/-- R120 step 5: whether the set has a recomputation behind it. -/
theorem steadySet_eq : s.steadySet st p ss
    = if (s.conf st).lost = true
          ∨ ((s.setTaken st p ss).conf st).stationClass ≠ (s.conf st).stationClass then
        (s.setTaken st p ss).recompute st
      else s.setTaken st p ss := by
  rw [setTaken_conf]
  rfl

theorem steadySet_frame : s.steadySet st p ss = { s.setTaken st p ss with
    permits := (s.steadySet st p ss).permits
    transmitters := (s.steadySet st p ss).transmitters } := by
  rw [steadySet_eq]
  split
  · exact recompute_frame st _
  · rfl

theorem steadySet_conf (q : Station) :
    (s.steadySet st p ss).conf q = (s.setTaken st p ss).conf q := by
  rw [steadySet_frame]
  rfl

theorem steadySet_port (q : Station) :
    (s.steadySet st p ss).port q = (s.setTaken st p ss).port q := by
  rw [steadySet_frame]
  rfl

theorem setTaken_permit (q : Station) : (s.setTaken st p ss).permit q = s.permit q := by
  rw [setTaken_frame]
  rfl

theorem setTaken_station (q : Station) : (s.setTaken st p ss).station q = s.station q := by
  rw [setTaken_frame]
  rfl

theorem steadySet_permit_of_ne {q : Station} (hq : q ≠ st) :
    (s.steadySet st p ss).permit q = s.permit q := by
  rw [← setTaken_permit s st p ss q, steadySet_eq]
  split
  · exact recompute_permit_of_ne st q _ hq
  · rfl

/-- R120, R131: a recomputation behind the set forms the caps without the flag and by the new
class. -/
theorem steadySet_caps (hpresent : (s.station st).present = true)
    (hchanged : (s.conf st).lost = true
      ∨ ((s.setTaken st p ss).conf st).stationClass ≠ (s.conf st).stationClass) :
    ((s.steadySet st p ss).permit st).caps = (s.setTaken st p ss).formCaps st := by
  have hpresent' : ((s.setTaken st p ss).station st).present = true := by
    rwa [setTaken_station]
  rw [steadySet_eq, if_pos hchanged, recompute_permit_same hpresent']
  rfl

theorem steadySet_permit_of_unchanged (hlost : (s.conf st).lost = false)
    (hclass : ((s.setTaken st p ss).conf st).stationClass = (s.conf st).stationClass) :
    (s.steadySet st p ss).permit st = s.permit st := by
  rw [steadySet_eq, if_neg (by simp [hlost, hclass]), setTaken_permit]

end SteadySet

/-- Settles O29: a set by its steps, persistence by its cases. -/
theorem steadySetBringsClassesForward : Obligations.SteadySetBringsClassesForward := by
  refine ⟨fun s body st ss n p hp hfits hset hheard hst hpattern hvalid => ?_,
    fun w e d => ⟨persist_of_eq, fun hw hrun => (persist_of_worse hw).trans (if_pos hrun),
      fun hw hrun => (persist_of_worse hw).trans (if_neg hrun),
      fun hb hrun => (persist_of_better hb).trans (if_pos hrun),
      fun hb hrun => (persist_of_better hb).trans (if_neg hrun)⟩⟩
  let u := s.setCollecting .monitor false
  have hpresent := present_of_heard hheard
  have hframe : u.steadySet st p ss = { u with
      conformance := (u.steadySet st p ss).conformance
      permits := (u.steadySet st p ss).permits
      transmitters := (u.steadySet st p ss).transmitters
      ports := (u.steadySet st p ss).ports } := by
    rw [steadySet_frame, setTaken_frame]
  have htaken : u.takeSampleSet st ss = u.steadySet st p ss :=
    takeSampleSet_of_steady (s := u) hheard hst hpattern hvalid
  have hst' : ((u.setTaken st p ss).station st).state = .steady n := by
    rw [setTaken_station]
    exact hst
  have hengine : (u.steadySet st p ss).engine = s.engine := by
    rw [hframe]
    rfl
  refine ⟨u.steadySet st p ss, exec_sampleSet_of_set hp hfits hset htaken hengine, ?_⟩
  simp only [steadySet_conf, steadySet_port]
  refine ⟨hframe, setTaken_conf_same u st p ss, fun q hq => ?_, ?_, fun hlost hclass => ?_,
    fun hchanged => ?_⟩
  · obtain ⟨hconf, hport⟩ := setTaken_of_ne u st p ss hq
    exact ⟨hconf, steadySet_permit_of_ne u st p ss hq, hport⟩
  · rw [setTaken_port, heardMonitor_port]
    simp only [true_and]
    rfl
  · exact steadySet_permit_of_unchanged u st p ss hlost hclass
  · rw [steadySet_caps u st p ss hpresent hchanged]
    refine ⟨?_, formCaps_caution_of_steady hst', formCaps_out_of_steady hst'⟩
    simp [State.formCaps, setTaken_conf_same]

end Sys2Proof.Machine
end

section
/-!
The Fault List (R142 to R149): what it does with a fault that is handed to it (R144, R145), and the
bounds it keeps whatever it is handed (R142, Table 9.1).
-/

namespace Sys2Proof.Machine

/-! ## The three things that happen to a fault (R144, R145) -/

/-- The list has a record of this source and kind. -/
def FaultList.Stands (source : FaultSource) (kind : FaultKind) (l : FaultList) : Prop :=
  ∃ r ∈ l.records, r.source = source ∧ r.kind = kind

/-- R145: the record a new fault makes. -/
def FaultRecord.made (now : Nat) (source : FaultSource) (kind : FaultKind) : FaultRecord :=
  ⟨source, kind, now, now, 1⟩

/-- R144: the list with a fault collapsed into the record that stands for it. -/
def FaultList.collapsed (now : Nat) (source : FaultSource) (kind : FaultKind) (l : FaultList) :
    FaultList :=
  { l with records := l.records.map fun r => if r.isFor source kind then r.collapse now else r }

section Take
variable {source : FaultSource} {kind : FaultKind} {l : FaultList} (now : Nat)

theorem FaultRecord.isFor_iff {r : FaultRecord} :
    r.isFor source kind = true ↔ r.source = source ∧ r.kind = kind := by
  simp [FaultRecord.isFor]

theorem FaultList.any_isFor : l.records.any (FaultRecord.isFor source kind) = true
    ↔ l.Stands source kind := by
  simp only [List.any_eq_true, FaultRecord.isFor_iff, FaultList.Stands]

theorem take_of_stands (h : l.Stands source kind) :
    l.take now source kind = (l.collapsed now source kind, false) :=
  if_pos (FaultList.any_isFor.mpr h)

theorem take_of_room (h : ¬ l.Stands source kind) (hroom : l.records.length < 16) :
    l.take now source kind
      = ({ l with records := l.records ++ [FaultRecord.made now source kind] }, true) :=
  (if_neg (mt FaultList.any_isFor.mp h)).trans (if_pos hroom)

theorem take_of_full (h : ¬ l.Stands source kind) (hfull : 16 ≤ l.records.length) :
    l.take now source kind
      = ({ l with overflow := true, dropped := satInc 255 l.dropped }, false) :=
  (if_neg (mt FaultList.any_isFor.mp h)).trans (if_neg (Nat.not_lt.mpr hfull))

end Take

/-! ## A fault handed over (R143 to R147) -/

section Raise
variable {source : FaultSource} {kind : FaultKind} (s : State)

theorem raiseFault_faults : (s.raiseFault source kind).faults
    = (s.faults.take (seconds s.time) source kind).1 :=
  congrArg State.faults (raiseFault_frame source kind s)

/-- A fault that makes no record makes no notice. -/
theorem raiseFault_ports_of_not_made
    (h : (s.faults.take (seconds s.time) source kind).2 = false) :
    (s.raiseFault source kind).ports = s.ports := by
  unfold State.raiseFault
  generalize s.faults.take (seconds s.time) source kind = taken at h ⊢
  obtain ⟨l, made⟩ := taken
  cases made with
  | false => rfl
  | true => exact nomatch h

/-- R147: a new record makes FAULT ADDED on each of the three ports. -/
theorem raiseFault_port_of_made
    (h : (s.faults.take (seconds s.time) source kind).2 = true) (p : Station) :
    (s.raiseFault source kind).port p = Port.handed (.faultAdded source kind) (s.port p) := by
  unfold State.raiseFault
  generalize s.faults.take (seconds s.time) source kind = taken at h ⊢
  obtain ⟨l, made⟩ := taken
  cases made with
  | false => exact nomatch h
  | true => cases p <;> rfl

end Raise

/-- Settles O50, by the three cases of a fault: its record stands, there is room for one, or the
list is full. -/
theorem faultListTakesAFault : Obligations.FaultListTakesAFault := by
  intro s source kind
  have hnone : (∀ r ∈ s.faults.records, ¬(r.source = source ∧ r.kind = kind)) →
      ¬ s.faults.Stands source kind := fun h ⟨r, hr, hfor⟩ => h r hr hfor
  refine ⟨?_, fun hstands => ?_, fun hnew hroom => ?_, fun hnew hfull => ?_⟩
  · rw [raiseFault_faults]
    exact raiseFault_frame source kind s
  · have htake := take_of_stands (seconds s.time) hstands
    refine ⟨raiseFault_ports_of_not_made s (by rw [htake]), ?_⟩
    rw [raiseFault_faults, htake]
    simp only [FaultList.collapsed, FaultRecord.isFor_iff]
    rfl
  · have htake := take_of_room (seconds s.time) (hnone hnew) hroom
    refine ⟨?_, raiseFault_port_of_made s (by rw [htake])⟩
    rw [raiseFault_faults, htake]
    rfl
  · have htake := take_of_full (seconds s.time) (hnone hnew) hfull
    refine ⟨raiseFault_ports_of_not_made s (by rw [htake]), ?_⟩
    rw [raiseFault_faults, htake]

/-! ## The bounds of the list (R142, Table 9.1) -/

/-- `State.FaultListBounded`, said of the list (`State.faultListBounded_iff`). -/
structure FaultList.Bounded (l : FaultList) : Prop where
  length_le : l.records.length ≤ 16
  nodup : (l.records.map (fun r => (r.source, r.kind))).Nodup
  record : ∀ r ∈ l.records, 1 ≤ r.count ∧ r.count ≤ 255 ∧ r.paired
  dropped_le : l.dropped ≤ 255

theorem State.faultListBounded_iff (s : State) : s.FaultListBounded ↔ s.faults.Bounded :=
  ⟨fun ⟨hlength, hnodup, hrecord, hdropped⟩ => ⟨hlength, hnodup, hrecord, hdropped⟩,
    fun h => ⟨h.length_le, h.nodup, h.record, h.dropped_le⟩⟩

/-- A count that stays at its top value stays below it, and never returns to 0. -/
theorem satInc_range {top n : Nat} (htop : 1 ≤ top) (hn : n ≤ top) :
    1 ≤ satInc top n ∧ satInc top n ≤ top := by
  unfold satInc
  split <;> omega

/-- Table 9.1: what is paired is the source with the kind, whatever the record counts. -/
theorem FaultRecord.paired_congr {r q : FaultRecord} (hsource : q.source = r.source)
    (hkind : q.kind = r.kind) : q.paired ↔ r.paired := by
  simp only [FaultRecord.paired, hsource, hkind]

namespace FaultList.Bounded
variable {l : FaultList}

/-- R144: a fault of a standing source and kind. -/
theorem collapsed (h : l.Bounded) (now : Nat) (source : FaultSource) (kind : FaultKind) :
    (l.collapsed now source kind).Bounded := by
  refine ⟨(List.length_map _).trans_le h.length_le, ?_, ?_, h.dropped_le⟩
  · have hsame : (fun r => (r.source, r.kind)) ∘ (fun r : FaultRecord =>
        if r.isFor source kind then r.collapse now else r) = fun r => (r.source, r.kind) := by
      funext r
      dsimp only [Function.comp_apply]
      split <;> rfl
    rw [FaultList.collapsed, List.map_map, hsame]
    exact h.nodup
  · refine List.forall_mem_map.mpr fun r hr => ?_
    obtain ⟨hpos, hle, hpaired⟩ := h.record r hr
    split
    · obtain ⟨hpos', hle'⟩ := satInc_range (top := 255) (by decide) hle
      exact ⟨hpos', hle', (FaultRecord.paired_congr rfl rfl).mpr hpaired⟩
    · exact ⟨hpos, hle, hpaired⟩

/-- R145: a fault of a new source and kind, which a record has room for. -/
theorem append (h : l.Bounded) {now : Nat} {source : FaultSource} {kind : FaultKind}
    (hpaired : (FaultRecord.made now source kind).paired) (hnew : ¬ l.Stands source kind)
    (hroom : l.records.length < 16) :
    FaultList.Bounded { l with records := l.records ++ [FaultRecord.made now source kind] } := by
  refine ⟨by simpa using hroom, ?_, ?_, h.dropped_le⟩
  · have hfresh : (source, kind) ∉ l.records.map (fun r => (r.source, r.kind)) := fun hmem => by
      obtain ⟨r, hr, hfor⟩ := List.mem_map.mp hmem
      exact hnew ⟨r, hr, Prod.mk.inj hfor⟩
    rw [List.map_append]
    refine List.nodup_append.mpr ⟨h.nodup, List.nodup_singleton _, fun a ha b hb hab => ?_⟩
    obtain rfl : a = (source, kind) := hab.trans (List.mem_singleton.mp hb)
    exact hfresh ha
  · intro r hr
    rcases List.mem_append.mp hr with hr | hr
    · exact h.record r hr
    · obtain rfl := List.mem_singleton.mp hr
      exact ⟨Nat.le_refl 1, show 1 ≤ 255 by decide, hpaired⟩

/-- R144 to R146: whatever fault is handed over, if its source goes with its kind. -/
theorem take (h : l.Bounded) {now : Nat} {source : FaultSource} {kind : FaultKind}
    (hpaired : (FaultRecord.made now source kind).paired) :
    (l.take now source kind).1.Bounded := by
  by_cases hstands : l.Stands source kind
  · rw [take_of_stands now hstands]
    exact h.collapsed now source kind
  · by_cases hroom : l.records.length < 16
    · rw [take_of_room now hstands hroom]
      exact h.append hpaired hstands hroom
    · rw [take_of_full now hstands (Nat.not_lt.mp hroom)]
      exact ⟨h.length_le, h.nodup, h.record, (satInc_range (by decide) h.dropped_le).2⟩

/-- R149: one record removed. -/
theorem clearAt (h : l.Bounded) (i : Nat) : (l.clearAt i).Bounded where
  length_le := (List.length_eraseIdx_le l.records i).trans h.length_le
  nodup := h.nodup.sublist ((List.eraseIdx_sublist l.records i).map _)
  record := fun r hr => h.record r (List.mem_of_mem_eraseIdx hr)
  dropped_le := h.dropped_le

/-- An empty list: after reset, and after CLEAR FAULT of all records. -/
theorem clearAll : FaultList.clearAll.Bounded where
  length_le := Nat.zero_le _
  nodup := List.nodup_nil
  record := nofun
  dropped_le := Nat.zero_le _

end FaultList.Bounded

end Sys2Proof.Machine
end

section
/-!
SUPPORT. Which operations leave the Fault List alone: all but the changes of a contactor that end in
a fault (R17), the report timeout (R129), CLEAR FAULT (R148) and the lines that empty it (R41).
-/

namespace Sys2Proof.Machine

/-! ## Writes to the other blocks -/

section Writes
variable (s : State) (st : Station)

/-- A fold of operations that leave the Fault List leaves it. -/
theorem State.foldl_faults {α : Type} {f : State → α → State}
    (h : ∀ s x, (f s x).faults = s.faults) (l : List α) (s : State) :
    (l.foldl f s).faults = s.faults := by
  induction l generalizing s with
  | nil => rfl
  | cons x l ih => exact (ih (f s x)).trans (h s x)

@[simp] theorem State.modGranted_faults (f : TRecord → TRecord) :
    (s.modGranted f).faults = s.faults := by
  unfold State.modGranted
  split <;> rfl

@[simp] theorem State.modFlight_faults (f : Flight → Flight) :
    (s.modFlight f).faults = s.faults := s.modGranted_faults _

@[simp] theorem State.setStage_faults (g : Stage) : (s.setStage g).faults = s.faults :=
  s.modGranted_faults _

@[simp] theorem State.modDriveJob_faults (f : DriveJob → DriveJob) :
    (s.modDriveJob f).faults = s.faults := by
  unfold State.modDriveJob
  split <;> rfl

@[simp] theorem State.setStation_faults (new : StationState) :
    (s.setStation st new).faults = s.faults := by
  rw [setStation_frame]

@[simp] theorem State.formTowers_faults (n : Fin 4) : (s.formTowers st n).faults = s.faults := rfl
@[simp] theorem State.emptyTowers_faults : (s.emptyTowers st).faults = s.faults := rfl
@[simp] theorem State.startMonitor_faults : (s.startMonitor st).faults = s.faults := rfl
@[simp] theorem State.stopMonitor_faults : (s.stopMonitor st).faults = s.faults := rfl

@[simp] theorem State.seedTowers_faults (g : TowerRecord → Grade) :
    (s.seedTowers st g).faults = s.faults := by
  rw [seedTowers_frame]

@[simp] theorem State.recompute_faults : (s.recompute st).faults = s.faults := by
  rw [recompute_frame]

@[simp] theorem State.recomputeAll_faults (sts : List Station) :
    (s.recomputeAll sts).faults = s.faults := by
  rw [recomputeAll_frame]

@[simp] theorem State.changeContactor_faults (k : Nat) (f : Contactor → Contactor) :
    (s.changeContactor k f).faults = s.faults := by
  rw [changeContactor_frame]

@[simp] theorem State.endRecord_faults (id : Nat) (x : TResult) :
    (s.endRecord id x).faults = s.faults := by
  rw [endRecord_frame]

@[simp] theorem State.notifyCollateral_faults (id : Nat) (c : StationSet) (b : Bool) :
    (s.notifyCollateral id c b).faults = s.faults := by
  rw [notifyCollateral_frame]

@[simp] theorem State.releaseMute_faults : s.releaseMute.faults = s.faults := by
  rw [releaseMute_frame]

@[simp] theorem State.placeMute_faults (muteSet : StationSet) :
    (s.placeMute muteSet).faults = s.faults := by
  rw [placeMute_frame]

@[simp] theorem State.permitZero_faults : s.permitZero.faults = s.faults :=
  State.foldl_faults (fun s st => by split <;> rfl) allStations s

@[simp] theorem State.setPresence_faults (present : Bool) :
    (s.setPresence present).faults = s.faults := by
  unfold State.setPresence
  split
  · rfl
  · split
    · simp [State.makePresent]
    · rfl

end Writes

/-! ## PROVING, SETTLING and ABORTING -/

section Stages
variable (s : State) (st : Station)

@[simp] theorem State.startProof_faults (n : Fin 4) : (s.startProof st n).faults = s.faults :=
  s.modFlight_faults _

@[simp] theorem State.enterProvingAtOnce_faults : s.enterProvingAtOnce.faults = s.faults := by
  unfold State.enterProvingAtOnce
  split <;> simp

@[simp] theorem State.settleExpires_faults : s.settleExpires.faults = s.faults := by
  unfold State.settleExpires
  split <;> simp

@[simp] theorem State.proofDone_faults : s.proofDone.faults = s.faults := by
  unfold State.proofDone
  split <;> simp

@[simp] theorem State.proofFails_faults : s.proofFails.faults = s.faults := by
  unfold State.proofFails
  split <;> simp

@[simp] theorem State.takeVerdict_faults (passing : Bool) :
    (s.takeVerdict st passing).faults = s.faults := by
  unfold State.takeVerdict
  split
  · rfl
  · split
    · dsimp only
      split <;> simp [apply_ite State.faults]
    · rfl

@[simp] theorem State.enterSettling_faults : s.enterSettling.faults = s.faults := by
  unfold State.enterSettling
  split <;> simp [apply_ite State.faults]

@[simp] theorem State.endAborting_faults : s.endAborting.faults = s.faults := by
  unfold State.endAborting
  split <;> simp [apply_ite State.faults]

@[simp] theorem State.enterAborting_faults (x : TResult) :
    (s.enterAborting x).faults = s.faults := by
  unfold State.enterAborting
  split <;> simp [apply_ite State.faults]

end Stages

/-! ## MOVING and MUTING -/

section Moves
variable (s : State) (st : Station) (k : Nat)

@[simp] theorem State.driveStart_faults (y : Pos) : (s.driveStart k y).2.faults = s.faults := by
  obtain ⟨-, hfaults, -⟩ := driveStart_frame s k y
  exact hfaults

@[simp] theorem State.orderStarts_faults (fuel : Nat) : (s.orderStarts fuel).faults = s.faults := by
  induction fuel generalizing s with
  | zero => rfl
  | succ fuel ih =>
    unfold State.orderStarts
    split
    · rfl
    · split
      · split
        · rfl
        · next m _ =>
          have hd := s.driveStart_faults m.contactor m.target
          generalize s.driveStart m.contactor m.target = answered at hd ⊢
          obtain ⟨answer, u⟩ := answered
          cases answer <;> simpa [ih, apply_ite State.faults] using hd
      · rfl

@[simp] theorem State.startMoves_faults : s.startMoves.faults = s.faults := s.orderStarts_faults _

@[simp] theorem State.enterMoving_faults : s.enterMoving.faults = s.faults := by
  simp [State.enterMoving]

@[simp] theorem State.examineCold_faults : s.examineCold.faults = s.faults := by
  unfold State.examineCold
  split <;> simp [apply_ite State.faults]

@[simp] theorem State.enterMuting_faults : s.enterMuting.faults = s.faults := by
  unfold State.enterMuting
  split <;> simp

@[simp] theorem State.endMuting_faults (x : TResult) : (s.endMuting x).faults = s.faults := by
  unfold State.endMuting
  split <;> simp

@[simp] theorem State.holdLimitReached_faults : s.holdLimitReached.faults = s.faults := by
  unfold State.holdLimitReached
  split <;> simp [apply_ite State.faults]

end Moves

/-! ## Drive jobs (R49 to R51) -/

section Drives
variable (s : State)

@[simp] theorem State.orderDrive_faults (fuel : Nat) : (s.orderDrive fuel).faults = s.faults := by
  induction fuel generalizing s with
  | zero => rfl
  | succ fuel ih =>
    unfold State.orderDrive
    split
    · rfl
    · split
      · split
        · rfl
        · next m _ =>
          have hd := s.driveStart_faults m.contactor m.target
          generalize s.driveStart m.contactor m.target = answered at hd ⊢
          obtain ⟨answer, u⟩ := answered
          cases answer <;> simpa [ih] using hd
      · rfl

@[simp] theorem State.endDriveIfDone_faults : s.endDriveIfDone.faults = s.faults := by
  unfold State.endDriveIfDone
  split
  · rfl
  · split <;> rfl

@[simp] theorem State.stepDrive_faults : s.stepDrive.faults = s.faults := by
  simp [State.stepDrive]

@[simp] theorem State.closeStarts_faults (cause : CloseCause) :
    (s.closeStarts cause).faults = s.faults := by
  simp [State.closeStarts]

end Drives

/-! ## What reaches the job (R16, R86, R87, R130, R81) -/

section Reports
variable (s : State) (st : Station) (k : Nat)

@[simp] theorem State.reportArrival_faults : (s.reportArrival k).faults = s.faults := by
  unfold State.reportArrival
  split
  · rfl
  · split
    · rfl
    · split
      · dsimp only
        split <;> simp [apply_ite State.faults]
      · rfl
  · simp [apply_ite State.faults]

@[simp] theorem State.reportFailure_faults : (s.reportFailure k).faults = s.faults := by
  unfold State.reportFailure
  split
  · rfl
  · split
    · rfl
    · split
      · dsimp only
        split <;> simp [apply_ite State.faults]
      · rfl
  · simp [apply_ite State.faults]

@[simp] theorem State.report_faults (r : Option Report) : (s.report r).faults = s.faults := by
  unfold State.report
  split <;> simp

@[simp] theorem State.holdStarts_faults : s.holdStarts.faults = s.faults := by
  unfold State.holdStarts
  split
  · rfl
  · split <;> simp [apply_ite State.faults]
  · simp

@[simp] theorem State.holdStops_faults : s.holdStops.faults = s.faults := by
  unfold State.holdStops
  split
  · rfl
  · split <;> simp [apply_ite State.faults]
  · simp

@[simp] theorem State.coldChanged_faults : (s.coldChanged st).faults = s.faults := by
  unfold State.coldChanged
  split
  · rfl
  · split
    · rfl
    · split
      · split <;> simp
      · rfl
  · simp

@[simp] theorem State.setCold_faults (c : Cold) (dwell : Option Nat) :
    (s.setCold st c dwell).faults = s.faults := by
  simp [State.setCold, apply_ite State.faults]

@[simp] theorem State.applyReading_faults (power : Nat) :
    (s.applyReading st power).faults = s.faults := by
  unfold State.applyReading
  split
  · simp
  · split <;> simp [State.coldReading, apply_ite State.faults]

end Reports

/-! ## The arbiter and recognition (R54, R68 to R72) -/

section Arbiter
variable (s : State) (st : Station)

@[simp] theorem State.grant_faults (id : Nat) (moves : List Move)
    (muteSet collateral : StationSet) :
    (s.grant id moves muteSet collateral).faults = s.faults := by
  simp [grant_eq, State.holding, apply_ite State.faults]

@[simp] theorem State.examine_faults (id : Nat) : (s.examine id).1.faults = s.faults := by
  unfold State.examine
  split
  · rfl
  · split
    · split <;> simp
    · rfl

@[simp] theorem examineFrom_faults (ids : List Nat) :
    (examineFrom ids s).1.faults = s.faults := by
  induction ids generalizing s with
  | nil => rfl
  | cons id ids ih =>
    have hexamined := s.examine_faults id
    unfold examineFrom
    generalize s.examine id = examined at hexamined ⊢
    obtain ⟨u, granted⟩ := examined
    cases granted with
    | true => exact hexamined
    | false => exact (ih u).trans hexamined

@[simp] theorem State.arbiterRuns_faults (fuel : Nat) : (s.arbiterRuns fuel).faults = s.faults := by
  induction fuel generalizing s with
  | zero => rfl
  | succ fuel ih =>
    unfold State.arbiterRuns
    split
    · have hrun := examineFrom_faults s s.queuedIds
      generalize examineFrom s.queuedIds s = run at hrun ⊢
      obtain ⟨u, granted⟩ := run
      cases granted with
      | true => exact (ih u).trans hrun
      | false => exact hrun
    · rfl

@[simp] theorem State.arbiter_faults : s.arbiter.faults = s.faults := s.arbiterRuns_faults _

@[simp] theorem State.thenArbiter_faults (f : State → State) :
    (s.thenArbiter f).faults = (f s).faults := by
  simp [State.thenArbiter, apply_ite State.faults]

@[simp] theorem State.recogniseAll_faults : s.recogniseAll.faults = s.faults := by
  refine State.foldl_faults (fun s st => ?_) allStations s
  unfold State.recognise
  split
  · split <;> simp
  · rfl

@[simp] theorem State.enterRun_faults : s.enterRun.faults = s.faults := by
  simp [State.enterRun]

@[simp] theorem State.endLocal_faults (id : Nat) : (s.endLocal id).faults = s.faults := by
  unfold State.endLocal
  split
  · rfl
  · split <;> simp

@[simp] theorem State.enterLocal_faults : (s.enterLocal st).faults = s.faults := by
  have hended : ∀ u : State, (u.endLocalRecords st).faults = u.faults := fun u =>
    (u.thenArbiter_faults _).trans (State.foldl_faults State.endLocal_faults _ u)
  unfold State.enterLocal
  dsimp only
  split <;> simp [hended]

end Arbiter

/-! ## The links and the station units -/

section Units
variable (s : State) (st : Station)

@[simp] theorem State.discardRecord_faults (link : Link) :
    (s.discardRecord link).faults = s.faults := by
  cases link <;> rfl

@[simp] theorem State.setCollecting_faults (link : Link) (b : Bool) :
    (s.setCollecting link b).faults = s.faults := by
  cases link <;> rfl

theorem State.tickRamp_faults : (s.tickRamp st).faults = s.faults := rfl

theorem State.monitorExpires_faults : (s.monitorExpires st).faults = s.faults := by
  rw [monitorExpires_frame]

@[simp] theorem State.steadySet_faults (p : Pattern) (ss : List Sample) :
    (s.steadySet st p ss).faults = s.faults := by
  rw [steadySet_frame, setTaken_frame]

theorem State.monitorRecord_faults (body : List Byte) :
    (s.monitorRecord body).faults = s.faults := by
  have hset : ∀ st ss, (s.takeSampleSet st ss).faults = s.faults := fun st ss => by
    unfold State.takeSampleSet
    split
    · rfl
    · split
      · rfl
      · simp [State.provingSet, State.countInvalid, apply_ite State.faults]
  unfold State.monitorRecord
  split <;> simp [hset]

theorem State.transmitterRecord_faults (body : List Byte) :
    (s.transmitterRecord st body).faults = s.faults := by
  unfold State.transmitterRecord
  split <;> simp [State.takePowerReport, apply_ite State.faults]

end Units

/-! ## The commands of the station ports -/

section Commands
variable (s : State) (p : Station) (tag : Byte)

theorem State.loadSite_faults (cPresent strokeWidth : Byte) (holdLimit : Half)
    (muteTimeout : Byte) :
    (s.loadSite p tag cPresent strokeWidth holdLimit muteTimeout).faults = s.faults := by
  simp [State.loadSite, apply_ite State.faults]

theorem State.loadStation_faults (station coldThreshold : Byte)
    (coldDwell reportTimeout rampStep : Half) (monitorTimeout escalate deescalate : Byte) :
    (s.loadStation p tag station coldThreshold coldDwell reportTimeout rampStep monitorTimeout
      escalate deescalate).faults = s.faults := by
  unfold State.loadStation
  split
  · rfl
  · split <;> rfl

theorem State.loadPattern_faults (n : Byte) (towers : List RawTower) (hdr : RawHeader)
    (st : Station) (slot : Fin 4) :
    (s.loadPattern p tag n towers hdr st slot).faults = s.faults := by
  unfold State.loadPattern
  split <;> rfl

theorem State.loadPositions_faults (banks : Half) (positions : List Byte) (st : Station)
    (slot : Fin 4) : (s.loadPositions p tag banks positions st slot).faults = s.faults := by
  unfold State.loadPositions
  split
  · rfl
  · split
    · rfl
    · split <;> rfl

theorem State.clearSlot_faults (st : Station) (slot : Fin 4) :
    (s.clearSlot p tag st slot).faults = s.faults := by
  unfold State.clearSlot
  split <;> rfl

theorem State.drive_faults (banks : Half) (positions : List Byte) :
    (s.drive p tag banks positions).faults = s.faults := by
  simp [State.drive, apply_ite State.faults]

theorem State.lock_faults : (s.lock p tag).faults = s.faults := by
  unfold State.lock
  split
  · rfl
  · split <;> simp

theorem State.request_faults (slot allow : Byte) (wait : Half) :
    (s.request p tag slot allow wait).faults = s.faults := by
  have hsupersede : (s.supersede p).faults = s.faults := by
    unfold State.supersede
    split <;> simp
  unfold State.request
  split
  · rfl
  · simp [enqueue_eq, hsupersede, apply_ite State.faults]

theorem State.cancel_faults (id : Byte) : (s.cancel p tag id).faults = s.faults := by
  unfold State.cancel
  split
  · rfl
  · split
    · rfl
    · split <;> simp

theorem State.consent_faults (value : Byte) : (s.consent p tag value).faults = s.faults := by
  unfold State.consent
  split
  · rfl
  · simp [apply_ite State.faults]

theorem State.limit_faults (value : Half) : (s.limit p tag value).faults = s.faults := by
  simp [State.limit]

theorem State.sync_faults : (s.sync p tag).faults = s.faults := by
  unfold State.sync
  split <;> rfl

theorem State.readContactors_faults (first count : Byte) :
    (s.readContactors p tag first count).faults = s.faults := by
  unfold State.readContactors
  split <;> rfl

theorem State.readTowers_faults (station : Byte) :
    (s.readTowers p tag station).faults = s.faults := by
  unfold State.readTowers
  split <;> rfl

theorem State.readClipLog_faults (station : Byte) :
    (s.readClipLog p tag station).faults = s.faults := by
  unfold State.readClipLog
  split <;> rfl

theorem State.clearClipLog_faults (mask : Half) :
    (s.clearClipLog p tag mask).faults = s.faults := by
  unfold State.clearClipLog
  split
  · rfl
  · split
    · rfl
    · split <;> rfl

theorem State.resume_faults : (s.resume p tag).faults = s.faults := by
  unfold State.resume
  split <;> rfl

theorem State.reclaim_faults : (s.reclaim p tag).faults = s.faults := by
  unfold State.reclaim
  split
  · split <;> rfl
  · rfl
  · rfl

end Commands

end Sys2Proof.Machine
end

section
/-!
The statement that every step keeps the Fault List within its bounds (R142, Table 9.1), by cases on
the command. Most leave the list as it is; a sense event, a travel limit and a derivation hand it a
fault of one of the part's contactors, a report timeout one of a station; CLEAR FAULT shortens it,
and POR empties it.
-/

namespace Sys2Proof.Machine

/-! ## What keeps the bounds -/

theorem State.FaultListBounded.of_faults {s t : State} (h : s.FaultListBounded)
    (he : t.faults = s.faults) : t.FaultListBounded := by
  rw [State.faultListBounded_iff] at h ⊢
  rwa [he]

/-- An operation that leaves the Fault List keeps its bounds. -/
theorem faultListBounded_of_faults {f : State → State} (hf : ∀ s, (f s).faults = s.faults) :
    Keeps State.FaultListBounded f := fun s h => h.of_faults (hf s)

/-- R143: `t` has the Fault List of `s` with one fault of contactor `k` handed to it, of a contactor
kind, or with none. -/
def State.FaultsContactor (k : Nat) (s t : State) : Prop :=
  ∃ kind, kind ≠ some .linkSilent ∧ t.faults = s.faultsAfter s.time (.contactor k) kind

theorem State.FaultListBounded.faultsContactor {s t : State} (h : s.FaultListBounded) {k : Nat}
    (hk : k < 96) (ht : s.FaultsContactor k t) : t.FaultListBounded := by
  obtain ⟨kind, hkind, hfaults⟩ := ht
  cases kind with
  | none => exact h.of_faults hfaults
  | some kind =>
    rw [State.faultListBounded_iff] at h ⊢
    rw [hfaults]
    exact h.take (now := seconds s.time) ⟨hk, fun he => hkind (congrArg some he)⟩

theorem State.faultsContactor_of_faults {s t : State} (k : Nat) (h : t.faults = s.faults) :
    s.FaultsContactor k t := ⟨none, nofun, h⟩

/-- R17: a change of a contactor and its fault. -/
theorem State.faultsContactor_changed (s : State) (k : Nat) (f : Contactor → Contactor)
    {kind : Option FaultKind} (hkind : kind ≠ some .linkSilent) :
    s.FaultsContactor k ((s.changeContactor k f).faulted k kind) := by
  refine ⟨kind, hkind, ?_⟩
  rw [State.faulted_frame, changeContactor_frame]
  rfl

/-! ## Sense events, travel limits and derivations (R9 to R11, R15, R18) -/

theorem State.faultsContactor_senseReport (s : State) (k : Nat) (v : Sense) :
    s.FaultsContactor k (s.senseReport k v).1 := by
  have unfaulted : ∀ t : State, t.faults = s.faults → s.FaultsContactor k t := fun _ =>
    State.faultsContactor_of_faults k
  have faulted : ∀ (f : Contactor → Contactor) (kind : FaultKind), kind ≠ .linkSilent →
      s.FaultsContactor k ((s.changeContactor k f).contactorFault k kind) := fun f kind hkind =>
    s.faultsContactor_changed k f (kind := some kind) fun he => hkind (Option.some.inj he)
  unfold State.senseReport
  split
  · exact unfaulted _ rfl
  · split
    case h_1 =>
      split
      · exact unfaulted _ rfl
      · exact faulted _ .uncommanded (by decide)
    case h_2 | h_10 | h_11 => exact faulted _ .lost (by decide)
    case h_3 | h_6 | h_13 | h_14 => exact faulted _ .conflict (by decide)
    case h_4 =>
      split
      · exact unfaulted _ (s.changeContactor_faults k _)
      · exact unfaulted _ rfl
    case h_7 | h_8 | h_9 => exact unfaulted _ (s.changeContactor_faults k _)
    case h_5 | h_12 | h_15 => exact unfaulted _ rfl

theorem State.faultsContactor_travelFails (s : State) (k : Nat) (g : CState) {kind : FaultKind}
    (cause : FailCause) (hkind : kind ≠ .linkSilent) :
    s.FaultsContactor k (s.travelFails k g kind cause).1 :=
  s.faultsContactor_changed k _ (kind := some kind) fun he => hkind (Option.some.inj he)

theorem State.faultsContactor_travelFailsFree (s : State) (k : Nat) (y : Pos) :
    s.FaultsContactor k (s.travelFailsFree k y).1 := by
  have fails : ∀ (g : CState) (kind : FaultKind) (cause : FailCause), kind ≠ .linkSilent →
      s.FaultsContactor k ({ s with freeDraw := s.freeDraw + 1 }.travelFails k g kind cause).1 :=
    fun g kind cause => State.faultsContactor_travelFails { s with freeDraw := _ } k g cause
  unfold State.travelFailsFree
  dsimp only
  split
  · exact State.faultsContactor_of_faults k (State.changeContactor_faults _ k _)
  · split
    · exact fails .stuck .stuck .stuck (by decide)
    · split
      · exact fails .lost .lost .lost (by decide)
      · exact fails .conflict .conflict .conflict (by decide)

theorem State.faultsContactor_travelExpires (s : State) (k : Nat) :
    s.FaultsContactor k (s.travelExpires k).1 := by
  unfold State.travelExpires
  split
  · next y _ =>
    split
    · split
      · exact s.faultsContactor_travelFailsFree k y
      · exact s.faultsContactor_travelFails k .stuck .stuck (by decide)
    · exact s.faultsContactor_travelFails k .lost .lost (by decide)
    · exact s.faultsContactor_travelFailsFree k y
    · exact s.faultsContactor_travelFailsFree k y
  · exact State.faultsContactor_of_faults k rfl

theorem State.faultsContactor_derive (s : State) (k : Nat) : s.FaultsContactor k (s.derive k) := by
  have hkind : ∀ v, faultOfDerivation v ≠ some .linkSilent := fun v => by
    cases v <;> simp [faultOfDerivation]
  rw [derive_eq]
  refine s.faultsContactor_changed k _ ?_
  split
  · exact hkind _
  · exact nofun

theorem faultListBounded_deriveList (ks : List Nat) (hks : ∀ k ∈ ks, k < 96) :
    Keeps State.FaultListBounded (State.deriveList ks) := by
  induction ks with
  | nil => exact fun s h => h
  | cons k ks ih =>
    intro s h
    obtain ⟨hk, hrest⟩ := List.forall_mem_cons.mp hks
    exact ih hrest _ (h.faultsContactor hk (s.faultsContactor_derive k))

theorem faultListBounded_deriveAll : Keeps State.FaultListBounded State.deriveAll :=
  faultListBounded_deriveList (List.range 96) fun _ => List.mem_range.mp

theorem faultListBounded_checkScanReady :
    Keeps State.FaultListBounded State.checkScanReady := by
  intro s h
  unfold State.checkScanReady
  split
  · exact faultListBounded_deriveAll { s with scanReady := true, firstValueExpiry := none } h
  · exact h

theorem faultListBounded_deadlinePasses : Keeps State.FaultListBounded State.deadlinePasses :=
  fun _ h => faultListBounded_checkScanReady _ (h.of_faults rfl)

theorem faultListBounded_debounceExpires {k : Nat} (hk : k < 96) :
    Keeps State.FaultListBounded (State.debounceExpires k) := by
  intro s h
  have hsettled : (s.modContactor k Contactor.settleRaw).FaultListBounded := h
  unfold State.debounceExpires
  dsimp only
  split
  · have hsensed := hsettled.faultsContactor hk
      (State.faultsContactor_senseReport _ k (s.contactor k).raw)
    exact hsensed.of_faults (State.report_faults _ _)
  · exact faultListBounded_checkScanReady _ hsettled

theorem faultListBounded_travelLimitExpires {k : Nat} (hk : k < 96) :
    Keeps State.FaultListBounded (State.travelLimitExpires k) := fun s h =>
  (h.faultsContactor hk (s.faultsContactor_travelExpires k)).of_faults (State.report_faults _ _)

/-! ## The report timeout (R129) -/

theorem faultListBounded_reportExpires (st : Station) :
    Keeps State.FaultListBounded (State.reportExpires st) := by
  intro s h
  unfold State.reportExpires
  have hcold := h.of_faults ((State.setCold_faults _ st .unknown none).trans
    (s.modPermit_faults st fun p => { p with reportExpiry := none }))
  rw [State.faultListBounded_iff] at hcold ⊢
  rw [raiseFault_faults]
  exact hcold.take (source := .station st) (kind := .linkSilent) rfl

/-! ## LOAD MAP (R4) -/

theorem faultListBounded_applyMap {k : Nat} {ms : List MapEntry} (hk : k + ms.length ≤ 96) :
    Keeps State.FaultListBounded (State.applyMap k ms) := by
  induction ms generalizing k with
  | nil => exact fun s h => h
  | cons m ms ih =>
    intro s h
    rw [List.length_cons] at hk
    have hmapped : (s.modContactor k fun c => { c with map := m }).FaultListBounded := h
    refine ih (by omega) _ ?_
    unfold State.applyMapEntry
    dsimp only
    split
    · exact hmapped.faultsContactor (by omega) (State.faultsContactor_derive _ k)
    · exact hmapped

theorem mapEntriesFrom_length {i : Nat} {es : List RawMapEntry} {ms : List MapEntry}
    (h : mapEntriesFrom i es = .ok ms) : ms.length = es.length := by
  induction es generalizing i ms with
  | nil =>
    obtain rfl := Except.ok.inj h
    rfl
  | cons e es ih =>
    unfold mapEntriesFrom at h
    split at h
    · exact nomatch h
    · split at h
      · exact nomatch h
      · next hrest =>
        obtain rfl := Except.ok.inj h
        exact congrArg (· + 1) (ih hrest)

/-- LOAD MAP of a record with as many entries as its count says (R167): they lie within the part. -/
theorem faultListBounded_loadMap (p : Station) (tag first count : Byte) {entries : List RawMapEntry}
    (hlength : entries.length = count.toNat) :
    Keeps State.FaultListBounded (State.loadMap p tag first count entries) := by
  intro s h
  unfold State.loadMap
  split
  · exact h
  · next hrange =>
    split
    · exact h
    · next ms hms =>
      split
      · exact h
      · have hmap : first.toNat + ms.length ≤ 96 := by
          rw [mapEntriesFrom_length hms, hlength]
          simp only [Bool.or_eq_true, decide_eq_true_eq, not_or] at hrange
          omega
        exact faultListBounded_applyMap hmap s h

/-! ## CLEAR FAULT and the lines (R148, R149, R41, R42) -/

theorem faultListBounded_clearFault (p : Station) (tag index : Byte) :
    Keeps State.FaultListBounded (State.clearFault p tag index) := by
  intro s h
  unfold State.clearFault
  split
  · exact h
  · split
    · split
      · exact h
      · exact (State.faultListBounded_iff _).mpr FaultList.Bounded.clearAll
    · split
      · exact h
      · split
        · exact h
        · exact (State.faultListBounded_iff _).mpr (((State.faultListBounded_iff s).mp h).clearAt _)

/-- R41: the part that POR holds has an empty Fault List. -/
theorem faultListBounded_held (s : State) : s.held.FaultListBounded :=
  (State.faultListBounded_iff _).mpr FaultList.Bounded.clearAll

theorem faultListBounded_powerUp (high : Bool) (s : State) : (s.powerUp high).FaultListBounded := by
  refine (faultListBounded_held s).of_faults ?_
  simp [State.powerUp]

/-- R42: a RESTART keeps the list, and hands it the faults of the derivation. -/
theorem faultListBounded_restarted : Keeps State.FaultListBounded State.restarted := by
  intro s h
  have hblocks : s.restartBlocks.FaultListBounded := h.of_faults (State.permitZero_faults _)
  have hderived : (if s.restartBlocks.scanReady then s.restartBlocks.deriveAll
      else s.restartBlocks).FaultListBounded := by
    split
    · exact faultListBounded_deriveAll _ hblocks
    · exact hblocks
  refine hderived.of_faults ?_
  simp [State.restarted, apply_ite State.faults]

/-! ## The ways to a command's effect -/

theorem faultListBounded_modPort (p : Station) (g : Port → Port) :
    Keeps State.FaultListBounded (State.modPort p g) :=
  faultListBounded_of_faults fun s => s.modPort_faults p g

theorem faultListBounded_onExpiry {f : State → State} (hf : Keeps State.FaultListBounded f)
    (expiry : Option Nat) : Keeps State.FaultListBounded (State.onExpiry expiry f) :=
  Keeps.onExpiry (fun t => faultListBounded_of_faults fun s => s.advanceTo_faults t) hf expiry

theorem faultListBounded_thenArbiter {f : State → State} (hf : Keeps State.FaultListBounded f) :
    Keeps State.FaultListBounded (State.thenArbiter f) :=
  Keeps.thenArbiter (faultListBounded_of_faults State.arbiter_faults) hf

/-- The expiry of a timer of the engine, with the arbiter behind it. -/
theorem faultListBounded_engineExpiry {f : State → State} (hf : ∀ s, (f s).faults = s.faults)
    (expiry : Option Nat) :
    Keeps State.FaultListBounded (State.onExpiry expiry (State.thenArbiter f)) :=
  faultListBounded_onExpiry (faultListBounded_thenArbiter (faultListBounded_of_faults hf)) expiry

theorem faultListBounded_received (link : Link) (body : List Byte) {f : State → State}
    (hf : Keeps State.FaultListBounded f) :
    Keeps State.FaultListBounded (State.running (State.received link body f)) :=
  Keeps.running (Keeps.received
    (faultListBounded_of_faults fun s => s.setCollecting_faults link false)
    (faultListBounded_of_faults fun s => s.discardRecord_faults link) body hf)

section Commands
variable (p : Station) (k : CmdKind) (tag : Byte) (i : Instr) {own : State → State}

theorem faultListBounded_command (hown : ∀ s, (own s).faults = s.faults) :
    Keeps State.FaultListBounded (State.command p k tag i own) :=
  Keeps.command faultListBounded_modPort p k tag i (faultListBounded_of_faults hown)

theorem faultListBounded_configCommand (hown : ∀ s, (own s).faults = s.faults) :
    Keeps State.FaultListBounded (State.command p k tag i (State.inConfig p k tag own)) :=
  Keeps.command faultListBounded_modPort p k tag i
    (Keeps.inConfig faultListBounded_modPort p k tag (faultListBounded_of_faults hown))

theorem faultListBounded_runCommand (hown : ∀ s, (own s).faults = s.faults) :
    Keeps State.FaultListBounded (State.command p k tag i (State.inRun p k tag own)) :=
  Keeps.command faultListBounded_modPort p k tag i
    (Keeps.inRun faultListBounded_modPort p k tag (faultListBounded_of_faults hown))

/-- A counted command reaches its own rule with the length its count says (R167). -/
theorem faultListBounded_countedCommand {ok : Bool}
    (hown : ok = true → Keeps State.FaultListBounded own) : Keeps State.FaultListBounded
      (State.countedCommand p k tag i ok (State.inConfig p k tag own)) := by
  cases ok with
  | true =>
    exact Keeps.countedCommand faultListBounded_modPort p k tag i true
      (Keeps.inConfig faultListBounded_modPort p k tag (hown rfl))
  | false =>
    exact Keeps.countedCommand faultListBounded_modPort p k tag i false (own := id) fun _ h => h

theorem withSlot_faults {own : Station → Fin 4 → State → State} (station slot : Byte)
    (bad : List Byte) (hown : ∀ st n s, (own st n s).faults = s.faults) (s : State) :
    (s.withSlot p k tag station slot bad own).faults = s.faults := by
  unfold State.withSlot
  split
  · exact hown _ _ s
  · rfl

end Commands

/-! ## The statement -/

/-- Every command keeps the Fault List within its bounds. -/
theorem exec_keeps_faultListBounded (i : Instr) (s : State) (h : s.FaultListBounded) :
    ∃ t, exec i s = .next t ∧ t.FaultListBounded := by
  cases i with
  | powerOnReset high => exact ⟨_, rfl, faultListBounded_powerUp high s⟩
  | porAsserted => exact ⟨_, rfl, faultListBounded_held s⟩
  | restart =>
    refine ⟨_, rfl, ?_⟩
    split
    · exact h
    · split
      · exact h
      · exact faultListBounded_restarted { s with restartLine := true } h
  | restartLineRelease => exact ⟨_, rfl, h⟩
  | localAssert st =>
    refine ⟨_, rfl, ?_⟩
    split
    · exact h
    · dsimp only
      split
      · exact h
      · exact h.of_faults (State.enterLocal_faults _ st)
  | localRelease st => exact ⟨_, rfl, h⟩
  | holdAssert =>
    refine ⟨_, rfl, ?_⟩
    split
    · exact h
    · split
      · exact h
      · exact h.of_faults (State.holdStarts_faults _)
  | holdRelease =>
    refine ⟨_, rfl, ?_⟩
    split
    · exact h
    · split
      · exact h
      · exact h.of_faults ((State.arbiter_faults _).trans (State.holdStops_faults _))
  | rawSenseChange k v =>
    refine ⟨_, rfl, h.of_faults ?_⟩
    split <;> rfl
  | senseEvent k =>
    exact ⟨_, rfl, faultListBounded_onExpiry (faultListBounded_thenArbiter
      (faultListBounded_debounceExpires k.isLt)) _ s h⟩
  | firstValueDeadline =>
    exact ⟨_, rfl, faultListBounded_onExpiry faultListBounded_deadlinePasses _ s h⟩
  | travelLimitExpiry k =>
    exact ⟨_, rfl, faultListBounded_onExpiry (faultListBounded_thenArbiter
      (faultListBounded_travelLimitExpires k.isLt)) _ s h⟩
  | driveJobStartsClosed cause =>
    exact ⟨_, rfl, faultListBounded_engineExpiry (fun u => u.closeStarts_faults cause) _ s h⟩
  | muteTimerExpiry =>
    exact ⟨_, rfl, faultListBounded_engineExpiry (fun u => u.endMuting_faults _) _ s h⟩
  | holdLimitReached =>
    exact ⟨_, rfl, faultListBounded_engineExpiry State.holdLimitReached_faults _ s h⟩
  | hotPauseLimitReached =>
    exact ⟨_, rfl, faultListBounded_engineExpiry (fun u => u.enterAborting_faults _) _ s h⟩
  | settleTimerExpiry =>
    exact ⟨_, rfl, faultListBounded_onExpiry
      (faultListBounded_of_faults State.settleExpires_faults) _ s h⟩
  | proofTimerExpiry =>
    exact ⟨_, rfl, faultListBounded_engineExpiry State.proofFails_faults _ s h⟩
  | waitLimitExpiry id =>
    exact ⟨_, rfl, faultListBounded_onExpiry
      (faultListBounded_of_faults fun u => u.endRecord_faults id _) _ s h⟩
  | monitorTimerExpiry st =>
    exact ⟨_, rfl, faultListBounded_onExpiry
      (faultListBounded_of_faults fun u => u.monitorExpires_faults st) _ s h⟩
  | coldDwellExpiry st =>
    exact ⟨_, rfl, faultListBounded_engineExpiry (fun u => u.setCold_faults st _ _) _ s h⟩
  | reportTimeoutExpiry st =>
    exact ⟨_, rfl, faultListBounded_onExpiry (faultListBounded_thenArbiter
      (faultListBounded_reportExpires st)) _ s h⟩
  | rampTick st =>
    exact ⟨_, rfl, faultListBounded_onExpiry
      (faultListBounded_of_faults fun u => u.tickRamp_faults st) _ s h⟩
  | portRecordReceived p body =>
    exact ⟨_, rfl, faultListBounded_received _ body (faultListBounded_modPort p _) s h⟩
  | sampleSet body =>
    exact ⟨_, rfl, faultListBounded_received _ body (faultListBounded_thenArbiter
      (faultListBounded_of_faults fun u => u.monitorRecord_faults body)) s h⟩
  | powerReport st body =>
    exact ⟨_, rfl, faultListBounded_received _ body (faultListBounded_thenArbiter
      (faultListBounded_of_faults fun u => u.transmitterRecord_faults st body)) s h⟩
  | discardedRecord link cause =>
    exact ⟨_, rfl, Keeps.running
      (faultListBounded_of_faults fun u => u.discardRecord_faults link) s h⟩
  | interbyteTimeout link =>
    refine ⟨_, rfl, Keeps.running (faultListBounded_of_faults fun u => ?_) s h⟩
    split
    · exact u.discardRecord_faults link
    · rfl
  | transmitComplete p => exact ⟨_, rfl, Keeps.running (faultListBounded_modPort p _) s h⟩
  | permitTransmitComplete st =>
    exact ⟨_, rfl, Keeps.running
      (faultListBounded_of_faults fun u => u.modTransmitter_faults st _) s h⟩
  | startByte link =>
    exact ⟨_, rfl, Keeps.running
      (faultListBounded_of_faults fun u => u.setCollecting_faults link true) s h⟩
  | loadSite p tag =>
    exact ⟨_, rfl, faultListBounded_configCommand p _ tag _
      (fun u => u.loadSite_faults p tag _ _ _ _) s h⟩
  | loadStation p tag =>
    exact ⟨_, rfl, faultListBounded_configCommand p _ tag _
      (fun u => u.loadStation_faults p tag _ _ _ _ _ _ _ _) s h⟩
  | loadMap p tag first count entries =>
    exact ⟨_, rfl, faultListBounded_countedCommand p _ tag _
      (fun hok => faultListBounded_loadMap p tag first count (beq_iff_eq.mp hok)) s h⟩
  | loadPattern p tag =>
    exact ⟨_, rfl, faultListBounded_countedCommand p _ tag _
      (fun _ => faultListBounded_of_faults (withSlot_faults p _ tag _ _ _
        fun st n u => u.loadPattern_faults p tag _ _ _ st n)) s h⟩
  | loadPositions p tag =>
    exact ⟨_, rfl, faultListBounded_countedCommand p _ tag _
      (fun _ => faultListBounded_of_faults (withSlot_faults p _ tag _ _ _
        fun st n u => u.loadPositions_faults p tag _ _ st n)) s h⟩
  | clearSlot p tag =>
    exact ⟨_, rfl, faultListBounded_configCommand p _ tag _ (withSlot_faults p _ tag _ _ _
      fun st n u => u.clearSlot_faults p tag st n) s h⟩
  | drive p tag banks positions =>
    exact ⟨_, rfl, faultListBounded_countedCommand p _ tag _
      (fun _ => faultListBounded_of_faults fun u => u.drive_faults p tag banks positions) s h⟩
  | lock p tag =>
    exact ⟨_, rfl, faultListBounded_configCommand p _ tag _ (fun u => u.lock_faults p tag) s h⟩
  | request p tag slot allow wait =>
    exact ⟨_, rfl, faultListBounded_runCommand p _ tag _
      (fun u => u.request_faults p tag slot allow wait) s h⟩
  | cancel p tag id =>
    exact ⟨_, rfl, faultListBounded_runCommand p _ tag _ (fun u => u.cancel_faults p tag id) s h⟩
  | consent p tag value =>
    exact ⟨_, rfl, faultListBounded_runCommand p _ tag _
      (fun u => u.consent_faults p tag value) s h⟩
  | limit p tag value =>
    exact ⟨_, rfl, faultListBounded_runCommand p _ tag _ (fun u => u.limit_faults p tag value) s h⟩
  | sync p tag =>
    exact ⟨_, rfl, faultListBounded_runCommand p _ tag _ (fun u => u.sync_faults p tag) s h⟩
  | status p tag =>
    exact ⟨_, rfl, faultListBounded_command p _ tag _ (own := State.status p tag)
      (fun _ => rfl) s h⟩
  | readContactors p tag first count =>
    exact ⟨_, rfl, faultListBounded_command p _ tag _
      (fun u => u.readContactors_faults p tag first count) s h⟩
  | readPattern p tag =>
    exact ⟨_, rfl, faultListBounded_command p _ tag _ (withSlot_faults p _ tag _ _ _
      (own := State.readPattern p tag) fun _ _ _ => rfl) s h⟩
  | readTowers p tag station =>
    exact ⟨_, rfl, faultListBounded_command p _ tag _
      (fun u => u.readTowers_faults p tag station) s h⟩
  | readQueue p tag =>
    exact ⟨_, rfl, faultListBounded_command p _ tag _ (own := State.readQueue p tag)
      (fun _ => rfl) s h⟩
  | readFaults p tag =>
    exact ⟨_, rfl, faultListBounded_command p _ tag _ (own := State.readFaults p tag)
      (fun _ => rfl) s h⟩
  | readClipLog p tag station =>
    exact ⟨_, rfl, faultListBounded_command p _ tag _
      (fun u => u.readClipLog_faults p tag station) s h⟩
  | clearClipLog p tag mask =>
    exact ⟨_, rfl, faultListBounded_command p _ tag _
      (fun u => u.clearClipLog_faults p tag mask) s h⟩
  | clearFault p tag index =>
    exact ⟨_, rfl, Keeps.command faultListBounded_modPort p _ tag _
      (faultListBounded_clearFault p tag index) s h⟩
  | resume p tag =>
    exact ⟨_, rfl, faultListBounded_command p _ tag _ (fun u => u.resume_faults p tag) s h⟩
  | reclaim p tag =>
    exact ⟨_, rfl, faultListBounded_command p _ tag _ (fun u => u.reclaim_faults p tag) s h⟩
  | illegal p body =>
    refine ⟨_, rfl, ?_⟩
    split
    · split
      · exact h
      · exact Keeps.queueRecord faultListBounded_modPort p body s h
    · exact Keeps.submit faultListBounded_modPort p body
        (Keeps.illegalEffect faultListBounded_modPort p body) s h

/-- Settles O52, by cases on the step and on its command. -/
theorem stepKeepsFaultListBounded : Obligations.StepKeepsFaultListBounded := by
  intro s t h hstep
  rcases step_cases hstep with ⟨i, u, hexec, hu⟩ | rfl
  · have hbounded : u.FaultListBounded := by
      rw [hu]
      exact h
    obtain ⟨t', ht', hkept⟩ := exec_keeps_faultListBounded i u hbounded
    obtain rfl : t' = t := Host.Outcome.next.inj (ht'.symm.trans hexec)
    exact hkept
  · refine h.of_faults ?_
    unfold State.tick
    split <;> rfl

end Sys2Proof.Machine
end
